-- ==== Sys2Proof/Word.lean ====
section
/-! DEFINITION. The word types of the core (spec/00_scope.md R7, spec/10_state.md R20): bit vectors stand only for
what the spec treats as bits. -/

namespace Sys2Proof

/-- A 64-bit register value or virtual address (R20). -/
abbrev Word := BitVec 64

/-- A 32-bit value: an instruction word, a 32-bit control register, a single-precision pattern. -/
abbrev Word32 := BitVec 32

/-- One byte of physical memory. -/
abbrev Byte := BitVec 8

/-- A 5-bit register number field (R142): it names a general, system or floating-point register 0 to 31. -/
abbrev Reg := BitVec 5

/-- A 16-bit immediate or displacement field (R143). -/
abbrev Imm16 := BitVec 16

end Sys2Proof
end

