-- ==== Sys2Proof/Config.lean ====
section
/-! DEFINITION. What the implementation fixes (spec/00_scope.md R8) and the free values of the spec
(spec/93_implementation_defined.md). A `Config` is plain data held in the machine's state, so a claim about every
state is a claim about every configuration; nothing the machine does changes it. -/

namespace Sys2Proof

/-- Rounding direction of a floating-point operation (spec/46_fpu_arith.md R391). -/
inductive RoundingMode where
  | nearestEven
  | towardZero
  | up
  | down
deriving DecidableEq, Repr

/-- The members of the record `FpNumerics` (R391) that an implementation may replace. -/
inductive FpFun where
  | add
  | sub
  | mul
  | div
  | sqrt
  | recip
  | rsqrt
deriving DecidableEq, Repr

/-- Where a function-valued parameter of R8 comes from: the default the spec gives, or the implementation's own
function, about which nothing is known beyond what the spec requires of it. -/
inductive ParamSource where
  | specDefault
  | own
deriving DecidableEq, Repr

/-- `CYCLES_PER_STEP` (R8, D22), a function of the step: one number for every step, as in the default, or the
implementation's own function of the step's number, about which nothing is known. -/
inductive StepCycles where
  | every (n : Nat)
  | own
deriving DecidableEq, Repr

/-- A range of physical addresses at which the platform's bus returns `fault` (R83 to R86, U9): for reads, for
writes, or for both. Which addresses these are is the platform's choice (R94). -/
structure BusHole where
  base : Nat
  size : Nat
  onRead : Bool
  onWrite : Bool
deriving DecidableEq, Repr

/-- The parameters of R8, and the platform's failing addresses. -/
structure Config where
  /-- `BIGENDIAN` (D2). -/
  bigEndian : Bool
  /-- `OVERFLOW_TRAPS` (D3). -/
  overflowTraps : Bool
  /-- `LATCH_FLIP32`, `LATCH_FLIP64` (D5). -/
  latchFlip : ParamSource
  /-- `COUNT_DIV` (D22). -/
  countDiv : Nat
  /-- `CYCLES_PER_STEP` (D22). -/
  cyclesPerStep : StepCycles
  /-- `RANDOM_DRAW` (D24). -/
  randomDraw : ParamSource
  /-- `PRID` (D26): the reset value of PRId (R45). -/
  prid : Word32
  /-- `CONFIG_RESET` (D26): the reset value of Config (R46). -/
  configReset : Word32
  /-- `FPU_IMPREV` (D26): the reset value of floating-point control register 0 (R60). -/
  fpuImprev : Word32
  /-- `PABITS` (D42). -/
  paBits : Nat
  /-- `FpNumerics` (D14): the arithmetic functions. -/
  numerics : ParamSource
  /-- `FP_INVALID_INT32` (R391). -/
  invalidInt32 : BitVec 32
  /-- `FP_INVALID_INT64` (R391). -/
  invalidInt64 : BitVec 64
  /-- The platform's failing physical addresses (R86, U9). -/
  busHoles : List BusHole
deriving DecidableEq, Repr

/-- The defaults of R8. No physical address fails, as in the programs of spec/95_test_vectors.md section 3. -/
def Config.default : Config where
  bigEndian := true
  overflowTraps := true
  latchFlip := .specDefault
  countDiv := 2
  cyclesPerStep := .every 1
  randomDraw := .specDefault
  prid := 0x00000400#32
  configReset := 0x00000000#32
  fpuImprev := 0x00000500#32
  paBits := 36
  numerics := .specDefault
  invalidInt32 := 0x7FFFFFFF#32
  invalidInt64 := 0x7FFFFFFFFFFFFFFF#64
  busHoles := []

/-- What a configuration must satisfy for the rules to make sense: a Count divisor (R39 divides by it) and a
physical address space that holds every unmapped window (R80, R104). -/
def Config.wf (c : Config) : Bool :=
  decide (0 < c.countDiv) && decide (36 ≤ c.paBits)

/-- What R46 demands of an implementer's `CONFIG_RESET`: bit 15 (`BE`) equals `BIGENDIAN`. The defaults that R8 gives
the two parameters do not meet it (assumption 3). -/
def Config.beBitAgrees (c : Config) : Bool := c.configReset.getLsbD 15 == c.bigEndian

/-- FREE VALUE. The `n`-th value the rules leave to a draw from all 64-bit patterns: `hi` and `lo` after a division
by zero (U1), the pattern of a NaN result (U3). Nothing constrains it. -/
opaque Config.freeWord : Nat → BitVec 64

/-- FREE VALUE. The `n`-th draw of a random TLB index (U4, U13); the user reduces it into the range the rule gives. -/
opaque Config.freeIndex : Nat → Nat

/-- FREE VALUE. An implementation's own `CYCLES_PER_STEP` (U17), of the number of the step since reset. -/
opaque Config.ownCyclesPerStep : Nat → Nat

/-- FREE VALUE. An implementation's own `LATCH_FLIP32` (U7); `flipLatch32` enforces the one requirement `f v ≠ v`. -/
opaque Config.ownLatchFlip32 : BitVec 32 → BitVec 32

/-- FREE VALUE. An implementation's own `LATCH_FLIP64` (U7). -/
opaque Config.ownLatchFlip64 : BitVec 64 → BitVec 64

/-- FREE VALUE. An implementation's own binary32 arithmetic (U15): function, rounding mode, operands. -/
opaque Config.ownFp32 : FpFun → RoundingMode → BitVec 32 → BitVec 32 → BitVec 32

/-- FREE VALUE. An implementation's own binary64 arithmetic (U15). -/
opaque Config.ownFp64 : FpFun → RoundingMode → BitVec 64 → BitVec 64 → BitVec 64

end Sys2Proof
end

