-- ==== Sys2Proof/Syntax.lean ====
section
/-! DEFINITION. The instructions: one constructor per row of spec/opcode_table.json, in the table's order. Operands
stand in the order of the assembler syntax of R154. A register number, immediate or code field is the bit field of
the encoding (R142, R143); a shift amount `sa` and a floating condition number `cc` are numbers, and
`Instr.wellFormed` says which of them the encoding admits. -/

namespace Sys2Proof

/-- An instruction of the core. The comment on each constructor is its mnemonic and rule. -/
inductive Instr where
  | sll (rd rt : Reg) (sa : Nat)  -- SLL, R195
  | srl (rd rt : Reg) (sa : Nat)  -- SRL, R196
  | sra (rd rt : Reg) (sa : Nat)  -- SRA, R197
  | sllv (rd rt rs : Reg)  -- SLLV, R198
  | srlv (rd rt rs : Reg)  -- SRLV, R199
  | srav (rd rt rs : Reg)  -- SRAV, R200
  | jr (rs : Reg)  -- JR, R248
  | jalr (rd rs : Reg)  -- JALR, R249
  | syscall (code : BitVec 20)  -- SYSCALL, R343
  | brk (code : BitVec 20)  -- BREAK, R348
  | sync (stype : BitVec 5)  -- SYNC, R344
  | mfhi (rd : Reg)  -- MFHI, R229
  | mthi (rs : Reg)  -- MTHI, R230
  | mflo (rd : Reg)  -- MFLO, R231
  | mtlo (rs : Reg)  -- MTLO, R232
  | dsllv (rd rt rs : Reg)  -- DSLLV, R207
  | dsrlv (rd rt rs : Reg)  -- DSRLV, R208
  | dsrav (rd rt rs : Reg)  -- DSRAV, R209
  | mult (rs rt : Reg)  -- MULT, R221
  | multu (rs rt : Reg)  -- MULTU, R222
  | div (rs rt : Reg)  -- DIV, R225
  | divu (rs rt : Reg)  -- DIVU, R226
  | dmult (rs rt : Reg)  -- DMULT, R223
  | dmultu (rs rt : Reg)  -- DMULTU, R224
  | ddiv (rs rt : Reg)  -- DDIV, R227
  | ddivu (rs rt : Reg)  -- DDIVU, R228
  | add (rd rs rt : Reg)  -- ADD, R171
  | addu (rd rs rt : Reg)  -- ADDU, R172
  | sub (rd rs rt : Reg)  -- SUB, R173
  | subu (rd rs rt : Reg)  -- SUBU, R174
  | and (rd rs rt : Reg)  -- AND, R187
  | or (rd rs rt : Reg)  -- OR, R188
  | xor (rd rs rt : Reg)  -- XOR, R189
  | nor (rd rs rt : Reg)  -- NOR, R190
  | slt (rd rs rt : Reg)  -- SLT, R183
  | sltu (rd rs rt : Reg)  -- SLTU, R184
  | dadd (rd rs rt : Reg)  -- DADD, R175
  | daddu (rd rs rt : Reg)  -- DADDU, R176
  | dsub (rd rs rt : Reg)  -- DSUB, R177
  | dsubu (rd rs rt : Reg)  -- DSUBU, R178
  | tge (rs rt : Reg) (code : BitVec 10)  -- TGE, R331
  | tgeu (rs rt : Reg) (code : BitVec 10)  -- TGEU, R332
  | tlt (rs rt : Reg) (code : BitVec 10)  -- TLT, R333
  | tltu (rs rt : Reg) (code : BitVec 10)  -- TLTU, R334
  | teq (rs rt : Reg) (code : BitVec 10)  -- TEQ, R335
  | tne (rs rt : Reg) (code : BitVec 10)  -- TNE, R336
  | dsll (rd rt : Reg) (sa : Nat)  -- DSLL, R201
  | dsrl (rd rt : Reg) (sa : Nat)  -- DSRL, R202
  | dsra (rd rt : Reg) (sa : Nat)  -- DSRA, R203
  | dsll32 (rd rt : Reg) (sa : Nat)  -- DSLL32, R204
  | dsrl32 (rd rt : Reg) (sa : Nat)  -- DSRL32, R205
  | dsra32 (rd rt : Reg) (sa : Nat)  -- DSRA32, R206
  | bltz (rs : Reg) (offset : Imm16)  -- BLTZ, R258
  | bgez (rs : Reg) (offset : Imm16)  -- BGEZ, R259
  | bltzl (rs : Reg) (offset : Imm16)  -- BLTZL, R260
  | bgezl (rs : Reg) (offset : Imm16)  -- BGEZL, R261
  | tgei (rs : Reg) (imm : Imm16)  -- TGEI, R337
  | tgeiu (rs : Reg) (imm : Imm16)  -- TGEIU, R338
  | tlti (rs : Reg) (imm : Imm16)  -- TLTI, R339
  | tltiu (rs : Reg) (imm : Imm16)  -- TLTIU, R340
  | teqi (rs : Reg) (imm : Imm16)  -- TEQI, R341
  | tnei (rs : Reg) (imm : Imm16)  -- TNEI, R342
  | bltzal (rs : Reg) (offset : Imm16)  -- BLTZAL, R262
  | bgezal (rs : Reg) (offset : Imm16)  -- BGEZAL, R263
  | bltzall (rs : Reg) (offset : Imm16)  -- BLTZALL, R264
  | bgezall (rs : Reg) (offset : Imm16)  -- BGEZALL, R265
  | j (target : BitVec 26)  -- J, R246
  | jal (target : BitVec 26)  -- JAL, R247
  | beq (rs rt : Reg) (offset : Imm16)  -- BEQ, R250
  | bne (rs rt : Reg) (offset : Imm16)  -- BNE, R251
  | blez (rs : Reg) (offset : Imm16)  -- BLEZ, R252
  | bgtz (rs : Reg) (offset : Imm16)  -- BGTZ, R253
  | addi (rt rs : Reg) (imm : Imm16)  -- ADDI, R179
  | addiu (rt rs : Reg) (imm : Imm16)  -- ADDIU, R180
  | slti (rt rs : Reg) (imm : Imm16)  -- SLTI, R185
  | sltiu (rt rs : Reg) (imm : Imm16)  -- SLTIU, R186
  | andi (rt rs : Reg) (imm : Imm16)  -- ANDI, R191
  | ori (rt rs : Reg) (imm : Imm16)  -- ORI, R192
  | xori (rt rs : Reg) (imm : Imm16)  -- XORI, R193
  | lui (rt : Reg) (imm : Imm16)  -- LUI, R194
  | cop2 (cofun : BitVec 26)  -- COP2, R346
  | beql (rs rt : Reg) (offset : Imm16)  -- BEQL, R254
  | bnel (rs rt : Reg) (offset : Imm16)  -- BNEL, R255
  | blezl (rs : Reg) (offset : Imm16)  -- BLEZL, R256
  | bgtzl (rs : Reg) (offset : Imm16)  -- BGTZL, R257
  | daddi (rt rs : Reg) (imm : Imm16)  -- DADDI, R181
  | daddiu (rt rs : Reg) (imm : Imm16)  -- DADDIU, R182
  | ldl (rt : Reg) (offset : Imm16) (base : Reg)  -- LDL, R298
  | ldr (rt : Reg) (offset : Imm16) (base : Reg)  -- LDR, R299
  | lb (rt : Reg) (offset : Imm16) (base : Reg)  -- LB, R281
  | lh (rt : Reg) (offset : Imm16) (base : Reg)  -- LH, R283
  | lwl (rt : Reg) (offset : Imm16) (base : Reg)  -- LWL, R294
  | lw (rt : Reg) (offset : Imm16) (base : Reg)  -- LW, R285
  | lbu (rt : Reg) (offset : Imm16) (base : Reg)  -- LBU, R282
  | lhu (rt : Reg) (offset : Imm16) (base : Reg)  -- LHU, R284
  | lwr (rt : Reg) (offset : Imm16) (base : Reg)  -- LWR, R295
  | lwu (rt : Reg) (offset : Imm16) (base : Reg)  -- LWU, R286
  | sb (rt : Reg) (offset : Imm16) (base : Reg)  -- SB, R288
  | sh (rt : Reg) (offset : Imm16) (base : Reg)  -- SH, R289
  | swl (rt : Reg) (offset : Imm16) (base : Reg)  -- SWL, R296
  | sw (rt : Reg) (offset : Imm16) (base : Reg)  -- SW, R290
  | sdl (rt : Reg) (offset : Imm16) (base : Reg)  -- SDL, R300
  | sdr (rt : Reg) (offset : Imm16) (base : Reg)  -- SDR, R301
  | swr (rt : Reg) (offset : Imm16) (base : Reg)  -- SWR, R297
  | cache (op : BitVec 5) (offset : Imm16) (base : Reg)  -- CACHE, R345
  | ll (rt : Reg) (offset : Imm16) (base : Reg)  -- LL, R302
  | lwc1 (ft : Reg) (offset : Imm16) (base : Reg)  -- LWC1, R372
  | lwc2 (rt : Reg) (offset : Imm16) (base : Reg)  -- LWC2, R346
  | lld (rt : Reg) (offset : Imm16) (base : Reg)  -- LLD, R303
  | ldc1 (ft : Reg) (offset : Imm16) (base : Reg)  -- LDC1, R373
  | ldc2 (rt : Reg) (offset : Imm16) (base : Reg)  -- LDC2, R346
  | ld (rt : Reg) (offset : Imm16) (base : Reg)  -- LD, R287
  | sc (rt : Reg) (offset : Imm16) (base : Reg)  -- SC, R304
  | swc1 (ft : Reg) (offset : Imm16) (base : Reg)  -- SWC1, R374
  | swc2 (rt : Reg) (offset : Imm16) (base : Reg)  -- SWC2, R346
  | scd (rt : Reg) (offset : Imm16) (base : Reg)  -- SCD, R305
  | sdc1 (ft : Reg) (offset : Imm16) (base : Reg)  -- SDC1, R375
  | sdc2 (rt : Reg) (offset : Imm16) (base : Reg)  -- SDC2, R346
  | sd (rt : Reg) (offset : Imm16) (base : Reg)  -- SD, R291
  | mfc0 (rt rd : Reg)  -- MFC0, R452
  | dmfc0 (rt rd : Reg)  -- DMFC0, R453
  | cfc0 (rt rd : Reg)  -- CFC0, R457
  | mtc0 (rt rd : Reg)  -- MTC0, R454
  | dmtc0 (rt rd : Reg)  -- DMTC0, R455
  | ctc0 (rt rd : Reg)  -- CTC0, R456
  | bc0f (offset : Imm16)  -- BC0F, R466
  | bc0t (offset : Imm16)  -- BC0T, R467
  | tlbr  -- TLBR, R461
  | tlbwi  -- TLBWI, R462
  | tlbwr  -- TLBWR, R463
  | tlbp  -- TLBP, R464
  | eret  -- ERET, R470
  | mfc1 (rt fs : Reg)  -- MFC1, R362
  | dmfc1 (rt fs : Reg)  -- DMFC1, R363
  | cfc1 (rt fs : Reg)  -- CFC1, R366
  | mtc1 (rt fs : Reg)  -- MTC1, R364
  | dmtc1 (rt fs : Reg)  -- DMTC1, R365
  | ctc1 (rt fs : Reg)  -- CTC1, R367
  | bc1f (cc : Nat) (offset : Imm16)  -- BC1F, R368
  | bc1t (cc : Nat) (offset : Imm16)  -- BC1T, R369
  | bc1fl (cc : Nat) (offset : Imm16)  -- BC1FL, R370
  | bc1tl (cc : Nat) (offset : Imm16)  -- BC1TL, R371
  | addS (fd fs ft : Reg)  -- ADD.S, R393
  | subS (fd fs ft : Reg)  -- SUB.S, R394
  | mulS (fd fs ft : Reg)  -- MUL.S, R395
  | divS (fd fs ft : Reg)  -- DIV.S, R396
  | sqrtS (fd fs : Reg)  -- SQRT.S, R397
  | absS (fd fs : Reg)  -- ABS.S, R398
  | movS (fd fs : Reg)  -- MOV.S, R399
  | negS (fd fs : Reg)  -- NEG.S, R400
  | roundLS (fd fs : Reg)  -- ROUND.L.S, R402
  | truncLS (fd fs : Reg)  -- TRUNC.L.S, R403
  | ceilLS (fd fs : Reg)  -- CEIL.L.S, R404
  | floorLS (fd fs : Reg)  -- FLOOR.L.S, R405
  | roundWS (fd fs : Reg)  -- ROUND.W.S, R406
  | truncWS (fd fs : Reg)  -- TRUNC.W.S, R407
  | ceilWS (fd fs : Reg)  -- CEIL.W.S, R408
  | floorWS (fd fs : Reg)  -- FLOOR.W.S, R409
  | movfS (fd fs : Reg) (cc : Nat)  -- MOVF.S, R414
  | movtS (fd fs : Reg) (cc : Nat)  -- MOVT.S, R415
  | movzS (fd fs rt : Reg)  -- MOVZ.S, R416
  | movnS (fd fs rt : Reg)  -- MOVN.S, R417
  | recipS (fd fs : Reg)  -- RECIP.S, R418
  | rsqrtS (fd fs : Reg)  -- RSQRT.S, R419
  | addD (fd fs ft : Reg)  -- ADD.D, R393
  | subD (fd fs ft : Reg)  -- SUB.D, R394
  | mulD (fd fs ft : Reg)  -- MUL.D, R395
  | divD (fd fs ft : Reg)  -- DIV.D, R396
  | sqrtD (fd fs : Reg)  -- SQRT.D, R397
  | absD (fd fs : Reg)  -- ABS.D, R398
  | movD (fd fs : Reg)  -- MOV.D, R399
  | negD (fd fs : Reg)  -- NEG.D, R400
  | roundLD (fd fs : Reg)  -- ROUND.L.D, R402
  | truncLD (fd fs : Reg)  -- TRUNC.L.D, R403
  | ceilLD (fd fs : Reg)  -- CEIL.L.D, R404
  | floorLD (fd fs : Reg)  -- FLOOR.L.D, R405
  | roundWD (fd fs : Reg)  -- ROUND.W.D, R406
  | truncWD (fd fs : Reg)  -- TRUNC.W.D, R407
  | ceilWD (fd fs : Reg)  -- CEIL.W.D, R408
  | floorWD (fd fs : Reg)  -- FLOOR.W.D, R409
  | movfD (fd fs : Reg) (cc : Nat)  -- MOVF.D, R414
  | movtD (fd fs : Reg) (cc : Nat)  -- MOVT.D, R415
  | movzD (fd fs rt : Reg)  -- MOVZ.D, R416
  | movnD (fd fs rt : Reg)  -- MOVN.D, R417
  | recipD (fd fs : Reg)  -- RECIP.D, R418
  | rsqrtD (fd fs : Reg)  -- RSQRT.D, R419
  | cvtSD (fd fs : Reg)  -- CVT.S.D, R410
  | cvtSW (fd fs : Reg)  -- CVT.S.W, R410
  | cvtSL (fd fs : Reg)  -- CVT.S.L, R410
  | cvtDS (fd fs : Reg)  -- CVT.D.S, R411
  | cvtDW (fd fs : Reg)  -- CVT.D.W, R411
  | cvtDL (fd fs : Reg)  -- CVT.D.L, R411
  | cvtWS (fd fs : Reg)  -- CVT.W.S, R412
  | cvtWD (fd fs : Reg)  -- CVT.W.D, R412
  | cvtLS (fd fs : Reg)  -- CVT.L.S, R413
  | cvtLD (fd fs : Reg)  -- CVT.L.D, R413
  | cFS (cc : Nat) (fs ft : Reg)  -- C.F.S, R425
  | cUnS (cc : Nat) (fs ft : Reg)  -- C.UN.S, R425
  | cEqS (cc : Nat) (fs ft : Reg)  -- C.EQ.S, R425
  | cUeqS (cc : Nat) (fs ft : Reg)  -- C.UEQ.S, R425
  | cOltS (cc : Nat) (fs ft : Reg)  -- C.OLT.S, R425
  | cUltS (cc : Nat) (fs ft : Reg)  -- C.ULT.S, R425
  | cOleS (cc : Nat) (fs ft : Reg)  -- C.OLE.S, R425
  | cUleS (cc : Nat) (fs ft : Reg)  -- C.ULE.S, R425
  | cSfS (cc : Nat) (fs ft : Reg)  -- C.SF.S, R425
  | cNgleS (cc : Nat) (fs ft : Reg)  -- C.NGLE.S, R425
  | cSeqS (cc : Nat) (fs ft : Reg)  -- C.SEQ.S, R425
  | cNglS (cc : Nat) (fs ft : Reg)  -- C.NGL.S, R425
  | cLtS (cc : Nat) (fs ft : Reg)  -- C.LT.S, R425
  | cNgeS (cc : Nat) (fs ft : Reg)  -- C.NGE.S, R425
  | cLeS (cc : Nat) (fs ft : Reg)  -- C.LE.S, R425
  | cNgtS (cc : Nat) (fs ft : Reg)  -- C.NGT.S, R425
  | cFD (cc : Nat) (fs ft : Reg)  -- C.F.D, R425
  | cUnD (cc : Nat) (fs ft : Reg)  -- C.UN.D, R425
  | cEqD (cc : Nat) (fs ft : Reg)  -- C.EQ.D, R425
  | cUeqD (cc : Nat) (fs ft : Reg)  -- C.UEQ.D, R425
  | cOltD (cc : Nat) (fs ft : Reg)  -- C.OLT.D, R425
  | cUltD (cc : Nat) (fs ft : Reg)  -- C.ULT.D, R425
  | cOleD (cc : Nat) (fs ft : Reg)  -- C.OLE.D, R425
  | cUleD (cc : Nat) (fs ft : Reg)  -- C.ULE.D, R425
  | cSfD (cc : Nat) (fs ft : Reg)  -- C.SF.D, R425
  | cNgleD (cc : Nat) (fs ft : Reg)  -- C.NGLE.D, R425
  | cSeqD (cc : Nat) (fs ft : Reg)  -- C.SEQ.D, R425
  | cNglD (cc : Nat) (fs ft : Reg)  -- C.NGL.D, R425
  | cLtD (cc : Nat) (fs ft : Reg)  -- C.LT.D, R425
  | cNgeD (cc : Nat) (fs ft : Reg)  -- C.NGE.D, R425
  | cLeD (cc : Nat) (fs ft : Reg)  -- C.LE.D, R425
  | cNgtD (cc : Nat) (fs ft : Reg)  -- C.NGT.D, R425
deriving DecidableEq, Repr

end Sys2Proof
end

