-- ==== Sys2Proof/WellFormed.lean ====
section
/-! DEFINITION. Which instruction terms an encoding admits. Bit-field operands are always representable; a shift
amount and a condition number are numbers and have a range. -/

namespace Sys2Proof

/-- A shift amount is a 5-bit field: 0 to 31 (R143); "a shift by the width cannot be expressed" (R210 (e)). -/
def shiftAmountOk (sa : Nat) : Bool := decide (sa < 32)

/-- A condition number is a 3-bit field naming one of `fcc[0..7]` (R142, R62). -/
def conditionOk (cc : Nat) : Bool := decide (cc < 8)

/-- The instruction is one that an encoding stands for. -/
def Instr.wellFormed : Instr → Bool
  | .sll _ _ sa | .srl _ _ sa | .sra _ _ sa | .dsll _ _ sa | .dsrl _ _ sa | .dsra _ _ sa | .dsll32 _ _ sa
  | .dsrl32 _ _ sa | .dsra32 _ _ sa => shiftAmountOk sa
  | .bc1f cc _ | .bc1t cc _ | .bc1fl cc _ | .bc1tl cc _ | .movfS _ _ cc | .movtS _ _ cc | .movfD _ _ cc
  | .movtD _ _ cc | .cFS cc _ _ | .cUnS cc _ _ | .cEqS cc _ _ | .cUeqS cc _ _ | .cOltS cc _ _ | .cUltS cc _ _
  | .cOleS cc _ _ | .cUleS cc _ _ | .cSfS cc _ _ | .cNgleS cc _ _ | .cSeqS cc _ _ | .cNglS cc _ _
  | .cLtS cc _ _ | .cNgeS cc _ _ | .cLeS cc _ _ | .cNgtS cc _ _ | .cFD cc _ _ | .cUnD cc _ _ | .cEqD cc _ _
  | .cUeqD cc _ _ | .cOltD cc _ _ | .cUltD cc _ _ | .cOleD cc _ _ | .cUleD cc _ _ | .cSfD cc _ _
  | .cNgleD cc _ _ | .cSeqD cc _ _ | .cNglD cc _ _ | .cLtD cc _ _ | .cNgeD cc _ _ | .cLeD cc _ _
  | .cNgtD cc _ _ => conditionOk cc
  | .sllv _ _ _ | .srlv _ _ _ | .srav _ _ _ | .jr _ | .jalr _ _ | .syscall _ | .brk _ | .sync _ | .mfhi _
  | .mthi _ | .mflo _ | .mtlo _ | .dsllv _ _ _ | .dsrlv _ _ _ | .dsrav _ _ _ | .mult _ _ | .multu _ _
  | .div _ _ | .divu _ _ | .dmult _ _ | .dmultu _ _ | .ddiv _ _ | .ddivu _ _ | .add _ _ _ | .addu _ _ _
  | .sub _ _ _ | .subu _ _ _ | .and _ _ _ | .or _ _ _ | .xor _ _ _ | .nor _ _ _ | .slt _ _ _ | .sltu _ _ _
  | .dadd _ _ _ | .daddu _ _ _ | .dsub _ _ _ | .dsubu _ _ _ | .tge _ _ _ | .tgeu _ _ _ | .tlt _ _ _
  | .tltu _ _ _ | .teq _ _ _ | .tne _ _ _ | .bltz _ _ | .bgez _ _ | .bltzl _ _ | .bgezl _ _ | .tgei _ _
  | .tgeiu _ _ | .tlti _ _ | .tltiu _ _ | .teqi _ _ | .tnei _ _ | .bltzal _ _ | .bgezal _ _ | .bltzall _ _
  | .bgezall _ _ | .j _ | .jal _ | .beq _ _ _ | .bne _ _ _ | .blez _ _ | .bgtz _ _ | .addi _ _ _ | .addiu _ _ _
  | .slti _ _ _ | .sltiu _ _ _ | .andi _ _ _ | .ori _ _ _ | .xori _ _ _ | .lui _ _ | .cop2 _ | .beql _ _ _
  | .bnel _ _ _ | .blezl _ _ | .bgtzl _ _ | .daddi _ _ _ | .daddiu _ _ _ | .ldl _ _ _ | .ldr _ _ _ | .lb _ _ _
  | .lh _ _ _ | .lwl _ _ _ | .lw _ _ _ | .lbu _ _ _ | .lhu _ _ _ | .lwr _ _ _ | .lwu _ _ _ | .sb _ _ _
  | .sh _ _ _ | .swl _ _ _ | .sw _ _ _ | .sdl _ _ _ | .sdr _ _ _ | .swr _ _ _ | .cache _ _ _ | .ll _ _ _
  | .lwc1 _ _ _ | .lwc2 _ _ _ | .lld _ _ _ | .ldc1 _ _ _ | .ldc2 _ _ _ | .ld _ _ _ | .sc _ _ _ | .swc1 _ _ _
  | .swc2 _ _ _ | .scd _ _ _ | .sdc1 _ _ _ | .sdc2 _ _ _ | .sd _ _ _ | .mfc0 _ _ | .dmfc0 _ _ | .cfc0 _ _
  | .mtc0 _ _ | .dmtc0 _ _ | .ctc0 _ _ | .bc0f _ | .bc0t _ | .tlbr | .tlbwi | .tlbwr | .tlbp | .eret
  | .mfc1 _ _ | .dmfc1 _ _ | .cfc1 _ _ | .mtc1 _ _ | .dmtc1 _ _ | .ctc1 _ _ | .addS _ _ _ | .subS _ _ _
  | .mulS _ _ _ | .divS _ _ _ | .sqrtS _ _ | .absS _ _ | .movS _ _ | .negS _ _ | .roundLS _ _ | .truncLS _ _
  | .ceilLS _ _ | .floorLS _ _ | .roundWS _ _ | .truncWS _ _ | .ceilWS _ _ | .floorWS _ _ | .movzS _ _ _
  | .movnS _ _ _ | .recipS _ _ | .rsqrtS _ _ | .addD _ _ _ | .subD _ _ _ | .mulD _ _ _ | .divD _ _ _
  | .sqrtD _ _ | .absD _ _ | .movD _ _ | .negD _ _ | .roundLD _ _ | .truncLD _ _ | .ceilLD _ _ | .floorLD _ _
  | .roundWD _ _ | .truncWD _ _ | .ceilWD _ _ | .floorWD _ _ | .movzD _ _ _ | .movnD _ _ _ | .recipD _ _
  | .rsqrtD _ _ | .cvtSD _ _ | .cvtSW _ _ | .cvtSL _ _ | .cvtDS _ _ | .cvtDW _ _ | .cvtDL _ _ | .cvtWS _ _
  | .cvtWD _ _ | .cvtLS _ _ | .cvtLD _ _ => true

end Sys2Proof
end

