-- ==== Sys2Proof/Decode.lean ====
section
/-! DEFINITION. Decoding and encoding of the 32-bit instruction word (spec/30_encoding.md R140 to R152). Only the key
fields of R144 to R148 select an instruction; must-be-zero fields are not examined (R149). Decoding is total: a word
that no row matches is `reserved`, with the opcode map that rejected it, because the order of decode faults depends
on it (R151). -/

namespace Sys2Proof

/-- The opcode map in which a reserved encoding was found (R150): the primary map or one of the second-level maps. -/
inductive ReservedIn where
  | primary
  | special
  | regimm
  | cop0
  | cop1
deriving DecidableEq, Repr

/-- What decoding answers: an instruction, a reserved encoding, or too few bytes for a word. -/
inductive Decoded where
  | instr (i : Instr)
  | reserved (place : ReservedIn)
  | truncated
deriving DecidableEq, Repr

/-- The `len`-bit field of `w` whose lowest bit is bit `lo`. -/
def field (w : Word32) (lo len : Nat) : BitVec len := w.extractLsb' lo len

/-- Bits 31:26, the primary opcode (R141). -/
def opField (w : Word32) : BitVec 6 := field w 26 6

/-- Bits 25:21: `rs`, `base`, `fmt` or a sub-opcode (R142). -/
def rsField (w : Word32) : Reg := field w 21 5

/-- Bits 20:16: `rt`, `ft` or a sub-opcode (R142). -/
def rtField (w : Word32) : Reg := field w 16 5

/-- Bits 15:11: `rd` or `fs` (R142). -/
def rdField (w : Word32) : Reg := field w 11 5

/-- Bits 10:6: `sa` or `fd` (R142). -/
def saField (w : Word32) : Reg := field w 6 5

/-- Bits 5:0: `funct` (R141). -/
def functField (w : Word32) : BitVec 6 := field w 0 6

/-- Bits 15:0: immediate or displacement (R143). -/
def immField (w : Word32) : Imm16 := field w 0 16

/-- Bits 25:0: jump target, or the coprocessor-2 operation (R142). -/
def targetField (w : Word32) : BitVec 26 := field w 0 26

/-- Bits 20:18: `cc` of formats CB and FM (R142). -/
def ccField (w : Word32) : BitVec 3 := field w 18 3

/-- Bits 10:8: `cc` of format FC (R142). -/
def compareCcField (w : Word32) : BitVec 3 := field w 8 3

/-- SPECIAL, keyed by `funct` (R145). -/
def decodeSpecial (w : Word32) : Decoded :=
  match (functField w).toNat with
  | 0x00 => .instr (.sll (rdField w) (rtField w) (saField w).toNat)
  | 0x02 => .instr (.srl (rdField w) (rtField w) (saField w).toNat)
  | 0x03 => .instr (.sra (rdField w) (rtField w) (saField w).toNat)
  | 0x04 => .instr (.sllv (rdField w) (rtField w) (rsField w))
  | 0x06 => .instr (.srlv (rdField w) (rtField w) (rsField w))
  | 0x07 => .instr (.srav (rdField w) (rtField w) (rsField w))
  | 0x08 => .instr (.jr (rsField w))
  | 0x09 => .instr (.jalr (rdField w) (rsField w))
  | 0x0C => .instr (.syscall (field w 6 20))
  | 0x0D => .instr (.brk (field w 6 20))
  | 0x0F => .instr (.sync (saField w))
  | 0x10 => .instr (.mfhi (rdField w))
  | 0x11 => .instr (.mthi (rsField w))
  | 0x12 => .instr (.mflo (rdField w))
  | 0x13 => .instr (.mtlo (rsField w))
  | 0x14 => .instr (.dsllv (rdField w) (rtField w) (rsField w))
  | 0x16 => .instr (.dsrlv (rdField w) (rtField w) (rsField w))
  | 0x17 => .instr (.dsrav (rdField w) (rtField w) (rsField w))
  | 0x18 => .instr (.mult (rsField w) (rtField w))
  | 0x19 => .instr (.multu (rsField w) (rtField w))
  | 0x1A => .instr (.div (rsField w) (rtField w))
  | 0x1B => .instr (.divu (rsField w) (rtField w))
  | 0x1C => .instr (.dmult (rsField w) (rtField w))
  | 0x1D => .instr (.dmultu (rsField w) (rtField w))
  | 0x1E => .instr (.ddiv (rsField w) (rtField w))
  | 0x1F => .instr (.ddivu (rsField w) (rtField w))
  | 0x20 => .instr (.add (rdField w) (rsField w) (rtField w))
  | 0x21 => .instr (.addu (rdField w) (rsField w) (rtField w))
  | 0x22 => .instr (.sub (rdField w) (rsField w) (rtField w))
  | 0x23 => .instr (.subu (rdField w) (rsField w) (rtField w))
  | 0x24 => .instr (.and (rdField w) (rsField w) (rtField w))
  | 0x25 => .instr (.or (rdField w) (rsField w) (rtField w))
  | 0x26 => .instr (.xor (rdField w) (rsField w) (rtField w))
  | 0x27 => .instr (.nor (rdField w) (rsField w) (rtField w))
  | 0x2A => .instr (.slt (rdField w) (rsField w) (rtField w))
  | 0x2B => .instr (.sltu (rdField w) (rsField w) (rtField w))
  | 0x2C => .instr (.dadd (rdField w) (rsField w) (rtField w))
  | 0x2D => .instr (.daddu (rdField w) (rsField w) (rtField w))
  | 0x2E => .instr (.dsub (rdField w) (rsField w) (rtField w))
  | 0x2F => .instr (.dsubu (rdField w) (rsField w) (rtField w))
  | 0x30 => .instr (.tge (rsField w) (rtField w) (field w 6 10))
  | 0x31 => .instr (.tgeu (rsField w) (rtField w) (field w 6 10))
  | 0x32 => .instr (.tlt (rsField w) (rtField w) (field w 6 10))
  | 0x33 => .instr (.tltu (rsField w) (rtField w) (field w 6 10))
  | 0x34 => .instr (.teq (rsField w) (rtField w) (field w 6 10))
  | 0x36 => .instr (.tne (rsField w) (rtField w) (field w 6 10))
  | 0x38 => .instr (.dsll (rdField w) (rtField w) (saField w).toNat)
  | 0x3A => .instr (.dsrl (rdField w) (rtField w) (saField w).toNat)
  | 0x3B => .instr (.dsra (rdField w) (rtField w) (saField w).toNat)
  | 0x3C => .instr (.dsll32 (rdField w) (rtField w) (saField w).toNat)
  | 0x3E => .instr (.dsrl32 (rdField w) (rtField w) (saField w).toNat)
  | 0x3F => .instr (.dsra32 (rdField w) (rtField w) (saField w).toNat)
  | _ => .reserved .special

/-- REGIMM, keyed by bits 20:16 (R146). -/
def decodeRegimm (w : Word32) : Decoded :=
  match (rtField w).toNat with
  | 0x00 => .instr (.bltz (rsField w) (immField w))
  | 0x01 => .instr (.bgez (rsField w) (immField w))
  | 0x02 => .instr (.bltzl (rsField w) (immField w))
  | 0x03 => .instr (.bgezl (rsField w) (immField w))
  | 0x08 => .instr (.tgei (rsField w) (immField w))
  | 0x09 => .instr (.tgeiu (rsField w) (immField w))
  | 0x0A => .instr (.tlti (rsField w) (immField w))
  | 0x0B => .instr (.tltiu (rsField w) (immField w))
  | 0x0C => .instr (.teqi (rsField w) (immField w))
  | 0x0E => .instr (.tnei (rsField w) (immField w))
  | 0x10 => .instr (.bltzal (rsField w) (immField w))
  | 0x11 => .instr (.bgezal (rsField w) (immField w))
  | 0x12 => .instr (.bltzall (rsField w) (immField w))
  | 0x13 => .instr (.bgezall (rsField w) (immField w))
  | _ => .reserved .regimm

/-- COP0 operations, bit 25 set, keyed by `funct` (R147). -/
def decodeCop0Operation (w : Word32) : Decoded :=
  match (functField w).toNat with
  | 0x01 => .instr .tlbr
  | 0x02 => .instr .tlbwi
  | 0x06 => .instr .tlbwr
  | 0x08 => .instr .tlbp
  | 0x18 => .instr .eret
  | _ => .reserved .cop0

/-- COP0 branches, keyed by bits 20:16; the likely forms are reserved (R147, R468). -/
def decodeCop0Branch (w : Word32) : Decoded :=
  match (rtField w).toNat with
  | 0x00 => .instr (.bc0f (immField w))
  | 0x01 => .instr (.bc0t (immField w))
  | _ => .reserved .cop0

/-- COP0, keyed by bits 25:21 (R147). -/
def decodeCop0 (w : Word32) : Decoded :=
  match (rsField w).toNat with
  | 0x00 => .instr (.mfc0 (rtField w) (rdField w))
  | 0x01 => .instr (.dmfc0 (rtField w) (rdField w))
  | 0x02 => .instr (.cfc0 (rtField w) (rdField w))
  | 0x04 => .instr (.mtc0 (rtField w) (rdField w))
  | 0x05 => .instr (.dmtc0 (rtField w) (rdField w))
  | 0x06 => .instr (.ctc0 (rtField w) (rdField w))
  | 0x08 => decodeCop0Branch w
  | sub => if 0x10 ≤ sub then decodeCop0Operation w else .reserved .cop0

/-- COP1 branches, keyed by bits 17:16, `nd` and `tf` (R148). -/
def decodeCop1Branch (w : Word32) : Decoded :=
  match (field w 16 2).toNat with
  | 0 => .instr (.bc1f (ccField w).toNat (immField w))
  | 1 => .instr (.bc1t (ccField w).toNat (immField w))
  | 2 => .instr (.bc1fl (ccField w).toNat (immField w))
  | _ => .instr (.bc1tl (ccField w).toNat (immField w))

/-- COP1 operations of format S (single), keyed by `funct` (R148). -/
def decodeCop1S (w : Word32) : Decoded :=
  match (functField w).toNat with
  | 0x00 => .instr (.addS (saField w) (rdField w) (rtField w))
  | 0x01 => .instr (.subS (saField w) (rdField w) (rtField w))
  | 0x02 => .instr (.mulS (saField w) (rdField w) (rtField w))
  | 0x03 => .instr (.divS (saField w) (rdField w) (rtField w))
  | 0x04 => .instr (.sqrtS (saField w) (rdField w))
  | 0x05 => .instr (.absS (saField w) (rdField w))
  | 0x06 => .instr (.movS (saField w) (rdField w))
  | 0x07 => .instr (.negS (saField w) (rdField w))
  | 0x08 => .instr (.roundLS (saField w) (rdField w))
  | 0x09 => .instr (.truncLS (saField w) (rdField w))
  | 0x0A => .instr (.ceilLS (saField w) (rdField w))
  | 0x0B => .instr (.floorLS (saField w) (rdField w))
  | 0x0C => .instr (.roundWS (saField w) (rdField w))
  | 0x0D => .instr (.truncWS (saField w) (rdField w))
  | 0x0E => .instr (.ceilWS (saField w) (rdField w))
  | 0x0F => .instr (.floorWS (saField w) (rdField w))
  | 0x11 => if field w 16 1 = 0 then .instr (.movfS (saField w) (rdField w) (ccField w).toNat)
    else .instr (.movtS (saField w) (rdField w) (ccField w).toNat)
  | 0x12 => .instr (.movzS (saField w) (rdField w) (rtField w))
  | 0x13 => .instr (.movnS (saField w) (rdField w) (rtField w))
  | 0x15 => .instr (.recipS (saField w) (rdField w))
  | 0x16 => .instr (.rsqrtS (saField w) (rdField w))
  | 0x21 => .instr (.cvtDS (saField w) (rdField w))
  | 0x24 => .instr (.cvtWS (saField w) (rdField w))
  | 0x25 => .instr (.cvtLS (saField w) (rdField w))
  | 0x30 => .instr (.cFS (compareCcField w).toNat (rdField w) (rtField w))
  | 0x31 => .instr (.cUnS (compareCcField w).toNat (rdField w) (rtField w))
  | 0x32 => .instr (.cEqS (compareCcField w).toNat (rdField w) (rtField w))
  | 0x33 => .instr (.cUeqS (compareCcField w).toNat (rdField w) (rtField w))
  | 0x34 => .instr (.cOltS (compareCcField w).toNat (rdField w) (rtField w))
  | 0x35 => .instr (.cUltS (compareCcField w).toNat (rdField w) (rtField w))
  | 0x36 => .instr (.cOleS (compareCcField w).toNat (rdField w) (rtField w))
  | 0x37 => .instr (.cUleS (compareCcField w).toNat (rdField w) (rtField w))
  | 0x38 => .instr (.cSfS (compareCcField w).toNat (rdField w) (rtField w))
  | 0x39 => .instr (.cNgleS (compareCcField w).toNat (rdField w) (rtField w))
  | 0x3A => .instr (.cSeqS (compareCcField w).toNat (rdField w) (rtField w))
  | 0x3B => .instr (.cNglS (compareCcField w).toNat (rdField w) (rtField w))
  | 0x3C => .instr (.cLtS (compareCcField w).toNat (rdField w) (rtField w))
  | 0x3D => .instr (.cNgeS (compareCcField w).toNat (rdField w) (rtField w))
  | 0x3E => .instr (.cLeS (compareCcField w).toNat (rdField w) (rtField w))
  | 0x3F => .instr (.cNgtS (compareCcField w).toNat (rdField w) (rtField w))
  | _ => .reserved .cop1

/-- COP1 operations of format D (double), keyed by `funct` (R148). -/
def decodeCop1D (w : Word32) : Decoded :=
  match (functField w).toNat with
  | 0x00 => .instr (.addD (saField w) (rdField w) (rtField w))
  | 0x01 => .instr (.subD (saField w) (rdField w) (rtField w))
  | 0x02 => .instr (.mulD (saField w) (rdField w) (rtField w))
  | 0x03 => .instr (.divD (saField w) (rdField w) (rtField w))
  | 0x04 => .instr (.sqrtD (saField w) (rdField w))
  | 0x05 => .instr (.absD (saField w) (rdField w))
  | 0x06 => .instr (.movD (saField w) (rdField w))
  | 0x07 => .instr (.negD (saField w) (rdField w))
  | 0x08 => .instr (.roundLD (saField w) (rdField w))
  | 0x09 => .instr (.truncLD (saField w) (rdField w))
  | 0x0A => .instr (.ceilLD (saField w) (rdField w))
  | 0x0B => .instr (.floorLD (saField w) (rdField w))
  | 0x0C => .instr (.roundWD (saField w) (rdField w))
  | 0x0D => .instr (.truncWD (saField w) (rdField w))
  | 0x0E => .instr (.ceilWD (saField w) (rdField w))
  | 0x0F => .instr (.floorWD (saField w) (rdField w))
  | 0x11 => if field w 16 1 = 0 then .instr (.movfD (saField w) (rdField w) (ccField w).toNat)
    else .instr (.movtD (saField w) (rdField w) (ccField w).toNat)
  | 0x12 => .instr (.movzD (saField w) (rdField w) (rtField w))
  | 0x13 => .instr (.movnD (saField w) (rdField w) (rtField w))
  | 0x15 => .instr (.recipD (saField w) (rdField w))
  | 0x16 => .instr (.rsqrtD (saField w) (rdField w))
  | 0x20 => .instr (.cvtSD (saField w) (rdField w))
  | 0x24 => .instr (.cvtWD (saField w) (rdField w))
  | 0x25 => .instr (.cvtLD (saField w) (rdField w))
  | 0x30 => .instr (.cFD (compareCcField w).toNat (rdField w) (rtField w))
  | 0x31 => .instr (.cUnD (compareCcField w).toNat (rdField w) (rtField w))
  | 0x32 => .instr (.cEqD (compareCcField w).toNat (rdField w) (rtField w))
  | 0x33 => .instr (.cUeqD (compareCcField w).toNat (rdField w) (rtField w))
  | 0x34 => .instr (.cOltD (compareCcField w).toNat (rdField w) (rtField w))
  | 0x35 => .instr (.cUltD (compareCcField w).toNat (rdField w) (rtField w))
  | 0x36 => .instr (.cOleD (compareCcField w).toNat (rdField w) (rtField w))
  | 0x37 => .instr (.cUleD (compareCcField w).toNat (rdField w) (rtField w))
  | 0x38 => .instr (.cSfD (compareCcField w).toNat (rdField w) (rtField w))
  | 0x39 => .instr (.cNgleD (compareCcField w).toNat (rdField w) (rtField w))
  | 0x3A => .instr (.cSeqD (compareCcField w).toNat (rdField w) (rtField w))
  | 0x3B => .instr (.cNglD (compareCcField w).toNat (rdField w) (rtField w))
  | 0x3C => .instr (.cLtD (compareCcField w).toNat (rdField w) (rtField w))
  | 0x3D => .instr (.cNgeD (compareCcField w).toNat (rdField w) (rtField w))
  | 0x3E => .instr (.cLeD (compareCcField w).toNat (rdField w) (rtField w))
  | 0x3F => .instr (.cNgtD (compareCcField w).toNat (rdField w) (rtField w))
  | _ => .reserved .cop1

/-- COP1 operations of format W (32-bit integer), keyed by `funct` (R148). -/
def decodeCop1W (w : Word32) : Decoded :=
  match (functField w).toNat with
  | 0x20 => .instr (.cvtSW (saField w) (rdField w))
  | 0x21 => .instr (.cvtDW (saField w) (rdField w))
  | _ => .reserved .cop1

/-- COP1 operations of format L (64-bit integer), keyed by `funct` (R148). -/
def decodeCop1L (w : Word32) : Decoded :=
  match (functField w).toNat with
  | 0x20 => .instr (.cvtSL (saField w) (rdField w))
  | 0x21 => .instr (.cvtDL (saField w) (rdField w))
  | _ => .reserved .cop1

/-- COP1, keyed by bits 25:21 (R148). -/
def decodeCop1 (w : Word32) : Decoded :=
  match (rsField w).toNat with
  | 0x00 => .instr (.mfc1 (rtField w) (rdField w))
  | 0x01 => .instr (.dmfc1 (rtField w) (rdField w))
  | 0x02 => .instr (.cfc1 (rtField w) (rdField w))
  | 0x04 => .instr (.mtc1 (rtField w) (rdField w))
  | 0x05 => .instr (.dmtc1 (rtField w) (rdField w))
  | 0x06 => .instr (.ctc1 (rtField w) (rdField w))
  | 0x08 => decodeCop1Branch w
  | 0x10 => decodeCop1S w
  | 0x11 => decodeCop1D w
  | 0x14 => decodeCop1W w
  | 0x15 => decodeCop1L w
  | _ => .reserved .cop1

/-- Decode one instruction word, keyed by the primary opcode (R141, R144). -/
def decodeWord (w : Word32) : Decoded :=
  match (opField w).toNat with
  | 0x00 => decodeSpecial w
  | 0x01 => decodeRegimm w
  | 0x10 => decodeCop0 w
  | 0x11 => decodeCop1 w
  | 0x02 => .instr (.j (targetField w))
  | 0x03 => .instr (.jal (targetField w))
  | 0x04 => .instr (.beq (rsField w) (rtField w) (immField w))
  | 0x05 => .instr (.bne (rsField w) (rtField w) (immField w))
  | 0x06 => .instr (.blez (rsField w) (immField w))
  | 0x07 => .instr (.bgtz (rsField w) (immField w))
  | 0x08 => .instr (.addi (rtField w) (rsField w) (immField w))
  | 0x09 => .instr (.addiu (rtField w) (rsField w) (immField w))
  | 0x0A => .instr (.slti (rtField w) (rsField w) (immField w))
  | 0x0B => .instr (.sltiu (rtField w) (rsField w) (immField w))
  | 0x0C => .instr (.andi (rtField w) (rsField w) (immField w))
  | 0x0D => .instr (.ori (rtField w) (rsField w) (immField w))
  | 0x0E => .instr (.xori (rtField w) (rsField w) (immField w))
  | 0x0F => .instr (.lui (rtField w) (immField w))
  | 0x12 => .instr (.cop2 (targetField w))
  | 0x14 => .instr (.beql (rsField w) (rtField w) (immField w))
  | 0x15 => .instr (.bnel (rsField w) (rtField w) (immField w))
  | 0x16 => .instr (.blezl (rsField w) (immField w))
  | 0x17 => .instr (.bgtzl (rsField w) (immField w))
  | 0x18 => .instr (.daddi (rtField w) (rsField w) (immField w))
  | 0x19 => .instr (.daddiu (rtField w) (rsField w) (immField w))
  | 0x1A => .instr (.ldl (rtField w) (immField w) (rsField w))
  | 0x1B => .instr (.ldr (rtField w) (immField w) (rsField w))
  | 0x20 => .instr (.lb (rtField w) (immField w) (rsField w))
  | 0x21 => .instr (.lh (rtField w) (immField w) (rsField w))
  | 0x22 => .instr (.lwl (rtField w) (immField w) (rsField w))
  | 0x23 => .instr (.lw (rtField w) (immField w) (rsField w))
  | 0x24 => .instr (.lbu (rtField w) (immField w) (rsField w))
  | 0x25 => .instr (.lhu (rtField w) (immField w) (rsField w))
  | 0x26 => .instr (.lwr (rtField w) (immField w) (rsField w))
  | 0x27 => .instr (.lwu (rtField w) (immField w) (rsField w))
  | 0x28 => .instr (.sb (rtField w) (immField w) (rsField w))
  | 0x29 => .instr (.sh (rtField w) (immField w) (rsField w))
  | 0x2A => .instr (.swl (rtField w) (immField w) (rsField w))
  | 0x2B => .instr (.sw (rtField w) (immField w) (rsField w))
  | 0x2C => .instr (.sdl (rtField w) (immField w) (rsField w))
  | 0x2D => .instr (.sdr (rtField w) (immField w) (rsField w))
  | 0x2E => .instr (.swr (rtField w) (immField w) (rsField w))
  | 0x2F => .instr (.cache (rtField w) (immField w) (rsField w))
  | 0x30 => .instr (.ll (rtField w) (immField w) (rsField w))
  | 0x31 => .instr (.lwc1 (rtField w) (immField w) (rsField w))
  | 0x32 => .instr (.lwc2 (rtField w) (immField w) (rsField w))
  | 0x34 => .instr (.lld (rtField w) (immField w) (rsField w))
  | 0x35 => .instr (.ldc1 (rtField w) (immField w) (rsField w))
  | 0x36 => .instr (.ldc2 (rtField w) (immField w) (rsField w))
  | 0x37 => .instr (.ld (rtField w) (immField w) (rsField w))
  | 0x38 => .instr (.sc (rtField w) (immField w) (rsField w))
  | 0x39 => .instr (.swc1 (rtField w) (immField w) (rsField w))
  | 0x3A => .instr (.swc2 (rtField w) (immField w) (rsField w))
  | 0x3C => .instr (.scd (rtField w) (immField w) (rsField w))
  | 0x3D => .instr (.sdc1 (rtField w) (immField w) (rsField w))
  | 0x3E => .instr (.sdc2 (rtField w) (immField w) (rsField w))
  | 0x3F => .instr (.sd (rtField w) (immField w) (rsField w))
  | _ => .reserved .primary

/-- The word that four bytes at rising addresses hold, in the configured byte order (R87, R140). -/
def wordOfBytes (bigEndian : Bool) (b0 b1 b2 b3 : Byte) : Word32 :=
  if bigEndian then b0 ++ b1 ++ b2 ++ b3 else b3 ++ b2 ++ b1 ++ b0

/-- Decode from bytes at rising addresses: every instruction is one word (R140). The bytes after it are handed
back. -/
def decodeBytes (bigEndian : Bool) : List Byte → Decoded × List Byte
  | b0 :: b1 :: b2 :: b3 :: rest => (decodeWord (wordOfBytes bigEndian b0 b1 b2 b3), rest)
  | bs => (.truncated, bs)

/-- The bytes of a word at rising addresses, in the configured byte order (R87). -/
def bytesOfWord (bigEndian : Bool) (w : Word32) : List Byte :=
  let b := [field w 24 8, field w 16 8, field w 8 8, field w 0 8]
  if bigEndian then b else b.reverse

/-- The instruction the decoder reads from an opcode-table word: `w` gives the low `nbits` bits, the others are 0;
the word is laid out in bytes in the default byte order. -/
def decodeTableWord (nbits w : Nat) : Option Instr :=
  match decodeBytes Config.default.bigEndian
      (bytesOfWord Config.default.bigEndian (BitVec.ofNat 32 (w % 2 ^ nbits))) with
  | (.instr i, _) => some i
  | _ => none

/-! ### Encoding -/

/-- The word that is 0 but for `v` with its lowest bit at bit `lo`. -/
def place {len : Nat} (lo : Nat) (v : BitVec len) : Word32 := v.setWidth 32 <<< lo

/-- Format R (R142), with primary opcode SPECIAL. -/
def encodeR (rs rt rd sa : Reg) (funct : BitVec 6) : Word32 :=
  place 21 rs ||| place 16 rt ||| place 11 rd ||| place 6 sa ||| place 0 funct

/-- Format R with a code field in place of registers (R343, R348, R330). -/
def encodeCode {len : Nat} (regs : Word32) (code : BitVec len) (funct : BitVec 6) : Word32 :=
  regs ||| place 6 code ||| place 0 funct

/-- Formats I, RI and CB of COP0 (R142): a primary opcode, two 5-bit fields, 16 low bits. -/
def encodeI (op : BitVec 6) (a b : BitVec 5) (imm : Imm16) : Word32 :=
  place 26 op ||| place 21 a ||| place 16 b ||| place 0 imm

/-- Format J (R142), also the coprocessor-2 operation word. -/
def encodeJ (op : BitVec 6) (target : BitVec 26) : Word32 := place 26 op ||| place 0 target

/-- Format CM (R142): coprocessor register move. -/
def encodeCM (op : BitVec 6) (sub rt rd : BitVec 5) : Word32 :=
  place 26 op ||| place 21 sub ||| place 16 rt ||| place 11 rd

/-- Format CB of COP1 (R142, R148): `ndtf` is bits 17:16. -/
def encodeCB (cc : Nat) (ndtf : BitVec 2) (offset : Imm16) : Word32 :=
  place 26 0x11#6 ||| place 21 0x08#5 ||| place 18 (BitVec.ofNat 3 cc) ||| place 16 ndtf ||| place 0 offset

/-- Format C0 (R142): system-coprocessor operation, bit 25 set. -/
def encodeC0 (funct : BitVec 6) : Word32 := place 26 0x10#6 ||| place 25 0x1#1 ||| place 0 funct

/-- Format FR (R142). -/
def encodeFR (fmt ft fs fd : BitVec 5) (funct : BitVec 6) : Word32 :=
  place 26 0x11#6 ||| place 21 fmt ||| place 16 ft ||| place 11 fs ||| place 6 fd ||| place 0 funct

/-- Format FC (R142): `funct` is `0x30 + cond`. -/
def encodeFC (fmt ft fs : BitVec 5) (cc : Nat) (funct : BitVec 6) : Word32 :=
  place 26 0x11#6 ||| place 21 fmt ||| place 16 ft ||| place 11 fs ||| place 8 (BitVec.ofNat 3 cc) |||
    place 0 funct

/-- Format FM (R142): `tf` is bit 16. -/
def encodeFM (fmt : BitVec 5) (cc : Nat) (tf : BitVec 1) (fs fd : BitVec 5) : Word32 :=
  place 26 0x11#6 ||| place 21 fmt ||| place 18 (BitVec.ofNat 3 cc) ||| place 16 tf ||| place 11 fs |||
    place 6 fd ||| place 0 0x11#6

/-- The word of an instruction, ignored fields zero, written from the encoding tables of R144 to R148. A shift amount
or condition number that is not well formed is cut to its field. -/
def encode : Instr → Word32
  | .sll rd rt sa => encodeR 0 rt rd (BitVec.ofNat 5 sa) 0x00
  | .srl rd rt sa => encodeR 0 rt rd (BitVec.ofNat 5 sa) 0x02
  | .sra rd rt sa => encodeR 0 rt rd (BitVec.ofNat 5 sa) 0x03
  | .sllv rd rt rs => encodeR rs rt rd 0 0x04
  | .srlv rd rt rs => encodeR rs rt rd 0 0x06
  | .srav rd rt rs => encodeR rs rt rd 0 0x07
  | .jr rs => encodeR rs 0 0 0 0x08
  | .jalr rd rs => encodeR rs 0 rd 0 0x09
  | .syscall code => encodeCode 0 code 0x0C
  | .brk code => encodeCode 0 code 0x0D
  | .sync stype => encodeR 0 0 0 stype 0x0F
  | .mfhi rd => encodeR 0 0 rd 0 0x10
  | .mthi rs => encodeR rs 0 0 0 0x11
  | .mflo rd => encodeR 0 0 rd 0 0x12
  | .mtlo rs => encodeR rs 0 0 0 0x13
  | .dsllv rd rt rs => encodeR rs rt rd 0 0x14
  | .dsrlv rd rt rs => encodeR rs rt rd 0 0x16
  | .dsrav rd rt rs => encodeR rs rt rd 0 0x17
  | .mult rs rt => encodeR rs rt 0 0 0x18
  | .multu rs rt => encodeR rs rt 0 0 0x19
  | .div rs rt => encodeR rs rt 0 0 0x1A
  | .divu rs rt => encodeR rs rt 0 0 0x1B
  | .dmult rs rt => encodeR rs rt 0 0 0x1C
  | .dmultu rs rt => encodeR rs rt 0 0 0x1D
  | .ddiv rs rt => encodeR rs rt 0 0 0x1E
  | .ddivu rs rt => encodeR rs rt 0 0 0x1F
  | .add rd rs rt => encodeR rs rt rd 0 0x20
  | .addu rd rs rt => encodeR rs rt rd 0 0x21
  | .sub rd rs rt => encodeR rs rt rd 0 0x22
  | .subu rd rs rt => encodeR rs rt rd 0 0x23
  | .and rd rs rt => encodeR rs rt rd 0 0x24
  | .or rd rs rt => encodeR rs rt rd 0 0x25
  | .xor rd rs rt => encodeR rs rt rd 0 0x26
  | .nor rd rs rt => encodeR rs rt rd 0 0x27
  | .slt rd rs rt => encodeR rs rt rd 0 0x2A
  | .sltu rd rs rt => encodeR rs rt rd 0 0x2B
  | .dadd rd rs rt => encodeR rs rt rd 0 0x2C
  | .daddu rd rs rt => encodeR rs rt rd 0 0x2D
  | .dsub rd rs rt => encodeR rs rt rd 0 0x2E
  | .dsubu rd rs rt => encodeR rs rt rd 0 0x2F
  | .tge rs rt code => encodeCode (place 21 rs ||| place 16 rt) code 0x30
  | .tgeu rs rt code => encodeCode (place 21 rs ||| place 16 rt) code 0x31
  | .tlt rs rt code => encodeCode (place 21 rs ||| place 16 rt) code 0x32
  | .tltu rs rt code => encodeCode (place 21 rs ||| place 16 rt) code 0x33
  | .teq rs rt code => encodeCode (place 21 rs ||| place 16 rt) code 0x34
  | .tne rs rt code => encodeCode (place 21 rs ||| place 16 rt) code 0x36
  | .dsll rd rt sa => encodeR 0 rt rd (BitVec.ofNat 5 sa) 0x38
  | .dsrl rd rt sa => encodeR 0 rt rd (BitVec.ofNat 5 sa) 0x3A
  | .dsra rd rt sa => encodeR 0 rt rd (BitVec.ofNat 5 sa) 0x3B
  | .dsll32 rd rt sa => encodeR 0 rt rd (BitVec.ofNat 5 sa) 0x3C
  | .dsrl32 rd rt sa => encodeR 0 rt rd (BitVec.ofNat 5 sa) 0x3E
  | .dsra32 rd rt sa => encodeR 0 rt rd (BitVec.ofNat 5 sa) 0x3F
  | .bltz rs offset => encodeI 0x01 rs 0x00 offset
  | .bgez rs offset => encodeI 0x01 rs 0x01 offset
  | .bltzl rs offset => encodeI 0x01 rs 0x02 offset
  | .bgezl rs offset => encodeI 0x01 rs 0x03 offset
  | .tgei rs imm => encodeI 0x01 rs 0x08 imm
  | .tgeiu rs imm => encodeI 0x01 rs 0x09 imm
  | .tlti rs imm => encodeI 0x01 rs 0x0A imm
  | .tltiu rs imm => encodeI 0x01 rs 0x0B imm
  | .teqi rs imm => encodeI 0x01 rs 0x0C imm
  | .tnei rs imm => encodeI 0x01 rs 0x0E imm
  | .bltzal rs offset => encodeI 0x01 rs 0x10 offset
  | .bgezal rs offset => encodeI 0x01 rs 0x11 offset
  | .bltzall rs offset => encodeI 0x01 rs 0x12 offset
  | .bgezall rs offset => encodeI 0x01 rs 0x13 offset
  | .j target => encodeJ 0x02 target
  | .jal target => encodeJ 0x03 target
  | .beq rs rt offset => encodeI 0x04 rs rt offset
  | .bne rs rt offset => encodeI 0x05 rs rt offset
  | .blez rs offset => encodeI 0x06 rs 0 offset
  | .bgtz rs offset => encodeI 0x07 rs 0 offset
  | .addi rt rs imm => encodeI 0x08 rs rt imm
  | .addiu rt rs imm => encodeI 0x09 rs rt imm
  | .slti rt rs imm => encodeI 0x0A rs rt imm
  | .sltiu rt rs imm => encodeI 0x0B rs rt imm
  | .andi rt rs imm => encodeI 0x0C rs rt imm
  | .ori rt rs imm => encodeI 0x0D rs rt imm
  | .xori rt rs imm => encodeI 0x0E rs rt imm
  | .lui rt imm => encodeI 0x0F 0 rt imm
  | .cop2 cofun => encodeJ 0x12 cofun
  | .beql rs rt offset => encodeI 0x14 rs rt offset
  | .bnel rs rt offset => encodeI 0x15 rs rt offset
  | .blezl rs offset => encodeI 0x16 rs 0 offset
  | .bgtzl rs offset => encodeI 0x17 rs 0 offset
  | .daddi rt rs imm => encodeI 0x18 rs rt imm
  | .daddiu rt rs imm => encodeI 0x19 rs rt imm
  | .ldl rt offset base => encodeI 0x1A base rt offset
  | .ldr rt offset base => encodeI 0x1B base rt offset
  | .lb rt offset base => encodeI 0x20 base rt offset
  | .lh rt offset base => encodeI 0x21 base rt offset
  | .lwl rt offset base => encodeI 0x22 base rt offset
  | .lw rt offset base => encodeI 0x23 base rt offset
  | .lbu rt offset base => encodeI 0x24 base rt offset
  | .lhu rt offset base => encodeI 0x25 base rt offset
  | .lwr rt offset base => encodeI 0x26 base rt offset
  | .lwu rt offset base => encodeI 0x27 base rt offset
  | .sb rt offset base => encodeI 0x28 base rt offset
  | .sh rt offset base => encodeI 0x29 base rt offset
  | .swl rt offset base => encodeI 0x2A base rt offset
  | .sw rt offset base => encodeI 0x2B base rt offset
  | .sdl rt offset base => encodeI 0x2C base rt offset
  | .sdr rt offset base => encodeI 0x2D base rt offset
  | .swr rt offset base => encodeI 0x2E base rt offset
  | .cache op offset base => encodeI 0x2F base op offset
  | .ll rt offset base => encodeI 0x30 base rt offset
  | .lwc1 ft offset base => encodeI 0x31 base ft offset
  | .lwc2 rt offset base => encodeI 0x32 base rt offset
  | .lld rt offset base => encodeI 0x34 base rt offset
  | .ldc1 ft offset base => encodeI 0x35 base ft offset
  | .ldc2 rt offset base => encodeI 0x36 base rt offset
  | .ld rt offset base => encodeI 0x37 base rt offset
  | .sc rt offset base => encodeI 0x38 base rt offset
  | .swc1 ft offset base => encodeI 0x39 base ft offset
  | .swc2 rt offset base => encodeI 0x3A base rt offset
  | .scd rt offset base => encodeI 0x3C base rt offset
  | .sdc1 ft offset base => encodeI 0x3D base ft offset
  | .sdc2 rt offset base => encodeI 0x3E base rt offset
  | .sd rt offset base => encodeI 0x3F base rt offset
  | .mfc0 rt rd => encodeCM 0x10 0x00 rt rd
  | .dmfc0 rt rd => encodeCM 0x10 0x01 rt rd
  | .cfc0 rt rd => encodeCM 0x10 0x02 rt rd
  | .mtc0 rt rd => encodeCM 0x10 0x04 rt rd
  | .dmtc0 rt rd => encodeCM 0x10 0x05 rt rd
  | .ctc0 rt rd => encodeCM 0x10 0x06 rt rd
  | .bc0f offset => encodeI 0x10 0x08 0x00 offset
  | .bc0t offset => encodeI 0x10 0x08 0x01 offset
  | .tlbr => encodeC0 0x01
  | .tlbwi => encodeC0 0x02
  | .tlbwr => encodeC0 0x06
  | .tlbp => encodeC0 0x08
  | .eret => encodeC0 0x18
  | .mfc1 rt fs => encodeCM 0x11 0x00 rt fs
  | .dmfc1 rt fs => encodeCM 0x11 0x01 rt fs
  | .cfc1 rt fs => encodeCM 0x11 0x02 rt fs
  | .mtc1 rt fs => encodeCM 0x11 0x04 rt fs
  | .dmtc1 rt fs => encodeCM 0x11 0x05 rt fs
  | .ctc1 rt fs => encodeCM 0x11 0x06 rt fs
  | .bc1f cc offset => encodeCB cc 0x0 offset
  | .bc1t cc offset => encodeCB cc 0x1 offset
  | .bc1fl cc offset => encodeCB cc 0x2 offset
  | .bc1tl cc offset => encodeCB cc 0x3 offset
  | .addS fd fs ft => encodeFR 0x10 ft fs fd 0x00
  | .subS fd fs ft => encodeFR 0x10 ft fs fd 0x01
  | .mulS fd fs ft => encodeFR 0x10 ft fs fd 0x02
  | .divS fd fs ft => encodeFR 0x10 ft fs fd 0x03
  | .sqrtS fd fs => encodeFR 0x10 0 fs fd 0x04
  | .absS fd fs => encodeFR 0x10 0 fs fd 0x05
  | .movS fd fs => encodeFR 0x10 0 fs fd 0x06
  | .negS fd fs => encodeFR 0x10 0 fs fd 0x07
  | .roundLS fd fs => encodeFR 0x10 0 fs fd 0x08
  | .truncLS fd fs => encodeFR 0x10 0 fs fd 0x09
  | .ceilLS fd fs => encodeFR 0x10 0 fs fd 0x0A
  | .floorLS fd fs => encodeFR 0x10 0 fs fd 0x0B
  | .roundWS fd fs => encodeFR 0x10 0 fs fd 0x0C
  | .truncWS fd fs => encodeFR 0x10 0 fs fd 0x0D
  | .ceilWS fd fs => encodeFR 0x10 0 fs fd 0x0E
  | .floorWS fd fs => encodeFR 0x10 0 fs fd 0x0F
  | .movfS fd fs cc => encodeFM 0x10 cc 0 fs fd
  | .movtS fd fs cc => encodeFM 0x10 cc 1 fs fd
  | .movzS fd fs rt => encodeFR 0x10 rt fs fd 0x12
  | .movnS fd fs rt => encodeFR 0x10 rt fs fd 0x13
  | .recipS fd fs => encodeFR 0x10 0 fs fd 0x15
  | .rsqrtS fd fs => encodeFR 0x10 0 fs fd 0x16
  | .addD fd fs ft => encodeFR 0x11 ft fs fd 0x00
  | .subD fd fs ft => encodeFR 0x11 ft fs fd 0x01
  | .mulD fd fs ft => encodeFR 0x11 ft fs fd 0x02
  | .divD fd fs ft => encodeFR 0x11 ft fs fd 0x03
  | .sqrtD fd fs => encodeFR 0x11 0 fs fd 0x04
  | .absD fd fs => encodeFR 0x11 0 fs fd 0x05
  | .movD fd fs => encodeFR 0x11 0 fs fd 0x06
  | .negD fd fs => encodeFR 0x11 0 fs fd 0x07
  | .roundLD fd fs => encodeFR 0x11 0 fs fd 0x08
  | .truncLD fd fs => encodeFR 0x11 0 fs fd 0x09
  | .ceilLD fd fs => encodeFR 0x11 0 fs fd 0x0A
  | .floorLD fd fs => encodeFR 0x11 0 fs fd 0x0B
  | .roundWD fd fs => encodeFR 0x11 0 fs fd 0x0C
  | .truncWD fd fs => encodeFR 0x11 0 fs fd 0x0D
  | .ceilWD fd fs => encodeFR 0x11 0 fs fd 0x0E
  | .floorWD fd fs => encodeFR 0x11 0 fs fd 0x0F
  | .movfD fd fs cc => encodeFM 0x11 cc 0 fs fd
  | .movtD fd fs cc => encodeFM 0x11 cc 1 fs fd
  | .movzD fd fs rt => encodeFR 0x11 rt fs fd 0x12
  | .movnD fd fs rt => encodeFR 0x11 rt fs fd 0x13
  | .recipD fd fs => encodeFR 0x11 0 fs fd 0x15
  | .rsqrtD fd fs => encodeFR 0x11 0 fs fd 0x16
  | .cvtSD fd fs => encodeFR 0x11 0 fs fd 0x20
  | .cvtSW fd fs => encodeFR 0x14 0 fs fd 0x20
  | .cvtSL fd fs => encodeFR 0x15 0 fs fd 0x20
  | .cvtDS fd fs => encodeFR 0x10 0 fs fd 0x21
  | .cvtDW fd fs => encodeFR 0x14 0 fs fd 0x21
  | .cvtDL fd fs => encodeFR 0x15 0 fs fd 0x21
  | .cvtWS fd fs => encodeFR 0x10 0 fs fd 0x24
  | .cvtWD fd fs => encodeFR 0x11 0 fs fd 0x24
  | .cvtLS fd fs => encodeFR 0x10 0 fs fd 0x25
  | .cvtLD fd fs => encodeFR 0x11 0 fs fd 0x25
  | .cFS cc fs ft => encodeFC 0x10 ft fs cc 0x30
  | .cUnS cc fs ft => encodeFC 0x10 ft fs cc 0x31
  | .cEqS cc fs ft => encodeFC 0x10 ft fs cc 0x32
  | .cUeqS cc fs ft => encodeFC 0x10 ft fs cc 0x33
  | .cOltS cc fs ft => encodeFC 0x10 ft fs cc 0x34
  | .cUltS cc fs ft => encodeFC 0x10 ft fs cc 0x35
  | .cOleS cc fs ft => encodeFC 0x10 ft fs cc 0x36
  | .cUleS cc fs ft => encodeFC 0x10 ft fs cc 0x37
  | .cSfS cc fs ft => encodeFC 0x10 ft fs cc 0x38
  | .cNgleS cc fs ft => encodeFC 0x10 ft fs cc 0x39
  | .cSeqS cc fs ft => encodeFC 0x10 ft fs cc 0x3A
  | .cNglS cc fs ft => encodeFC 0x10 ft fs cc 0x3B
  | .cLtS cc fs ft => encodeFC 0x10 ft fs cc 0x3C
  | .cNgeS cc fs ft => encodeFC 0x10 ft fs cc 0x3D
  | .cLeS cc fs ft => encodeFC 0x10 ft fs cc 0x3E
  | .cNgtS cc fs ft => encodeFC 0x10 ft fs cc 0x3F
  | .cFD cc fs ft => encodeFC 0x11 ft fs cc 0x30
  | .cUnD cc fs ft => encodeFC 0x11 ft fs cc 0x31
  | .cEqD cc fs ft => encodeFC 0x11 ft fs cc 0x32
  | .cUeqD cc fs ft => encodeFC 0x11 ft fs cc 0x33
  | .cOltD cc fs ft => encodeFC 0x11 ft fs cc 0x34
  | .cUltD cc fs ft => encodeFC 0x11 ft fs cc 0x35
  | .cOleD cc fs ft => encodeFC 0x11 ft fs cc 0x36
  | .cUleD cc fs ft => encodeFC 0x11 ft fs cc 0x37
  | .cSfD cc fs ft => encodeFC 0x11 ft fs cc 0x38
  | .cNgleD cc fs ft => encodeFC 0x11 ft fs cc 0x39
  | .cSeqD cc fs ft => encodeFC 0x11 ft fs cc 0x3A
  | .cNglD cc fs ft => encodeFC 0x11 ft fs cc 0x3B
  | .cLtD cc fs ft => encodeFC 0x11 ft fs cc 0x3C
  | .cNgeD cc fs ft => encodeFC 0x11 ft fs cc 0x3D
  | .cLeD cc fs ft => encodeFC 0x11 ft fs cc 0x3E
  | .cNgtD cc fs ft => encodeFC 0x11 ft fs cc 0x3F

end Sys2Proof
end

