-- ==== Sys2Proof/Machine/State.lean ====
section
/-! DEFINITION. The machine's state as plain data (spec/10_state.md R20 to R68), the exceptions it can raise
(spec/60_exceptions.md R490), the ways a step can stop, and the state after reset (R540). -/

namespace Sys2Proof.Machine

/-- The branch pipeline state (R23). -/
inductive BranchState where
  | none
  | delay
  | branch
  | exception
  | nullify
deriving DecidableEq, Repr

/-- The privilege mode (R64); the reserved encoding `KSU = 3` is no mode. -/
inductive Mode where
  | kernel
  | supervisor
  | user
deriving DecidableEq, Repr

/-- What an access is for (R100). -/
inductive Intent where
  | fetch
  | read
  | write
deriving DecidableEq, Repr

/-- How a TLB exception came about: no matching entry, with `wide` the value of `Addr64()` for the access
(R114, R501), or a matching half with `v = 0` (R113). -/
inductive TlbFailure where
  | refill (wide : Bool)
  | invalid
deriving DecidableEq, Repr

/-- The exceptions of R490, with what each one's entry needs to know. -/
inductive Exc where
  | interrupt
  | tlbMod (vaddr : Word)
  | tlbl (vaddr : Word) (why : TlbFailure)
  | tlbs (vaddr : Word) (why : TlbFailure)
  | adel (vaddr : Word)
  | ades (vaddr : Word)
  | ibe
  | dbe
  | syscall
  | breakpoint
  | reservedInstruction
  | coprocessorUnusable (n : BitVec 2)
  | overflow
  | trap
deriving DecidableEq, Repr

/-- Faults of the model. The core itself reports every failure as an exception, so only one thing is left. -/
inductive Fault where
  /-- Raised by `translate` for an unmapped segment when the physical address it forms is not below `2 ^ PABITS`:
  the spec says that no such physical address exists (R80). It cannot happen when `PABITS ≥ 36` (`Config.wf`).
  Safe: the machine stops where the spec gives no effect. -/
  | noSuchPhysicalAddress
deriving DecidableEq, Repr

/-- Refusals of the model. -/
inductive Refusal where
  /-- Raised by `translate` in the reserved mode, `Status.KSU = 3` with `EXL = ERL = 0`: there is no segment map,
  and "a model refuses to translate in it" (R106, U14, D39). Safe: the machine stops. -/
  | reservedMode
  /-- Raised by `exec` for an instruction that has no meaning yet; no arm of this model uses it. Safe. -/
  | notModelled (mnemonic : String)
deriving DecidableEq, Repr

/-- What an access answers: a value, an exception to raise, or a stop of the model. -/
inductive Access (α : Type) where
  | ok (a : α)
  | raised (e : Exc)
  | fault (f : Fault)
  | refused (r : Refusal)
deriving DecidableEq, Repr

/-- One TLB entry (R29). `lo0` and `lo1` are the images of EntryLo0[29:1] and EntryLo1[29:1]. -/
structure TlbEntry where
  mask : BitVec 12
  r : BitVec 2
  vpn2 : BitVec 27
  asid : BitVec 8
  g : Bool
  lo0 : BitVec 29
  lo1 : BitVec 29
deriving DecidableEq, Repr

/-- The attributes a translation yields (R116); no rule depends on them. -/
structure Attr where
  c : BitVec 3
  g : Bool
deriving DecidableEq, Repr

/-- Physical memory: the bytes that differ from what an unlisted address reads as, by rising address. -/
abbrev Memory := List Host.Cell

/-- The system-coprocessor data registers `cpr0` (R30), each under its own name at the width it uses. Random (1) and
Count (9) are synthesized and have no cell; CacheErr (27) reads 0. -/
structure Cp0 where
  index : Word32       -- 0, R31
  entryLo0 : Word      -- 2, R33
  entryLo1 : Word      -- 3, R33
  context : Word       -- 4, R34
  pageMask : Word32    -- 5, R35
  wired : Word32       -- 6, R36
  unused7 : Word       -- 7, R37
  badVAddr : Word      -- 8, R38
  entryHi : Word       -- 10, R40
  compare : Word32     -- 11, R41
  status : Word32      -- 12, R42
  cause : Word32       -- 13, R43
  epc : Word           -- 14, R44
  prid : Word32        -- 15, R45
  config : Word32      -- 16, R46
  llAddr : Word32      -- 17, R47
  watchLo : Word32     -- 18, R48
  watchHi : Word32     -- 19, R48
  xContext : Word      -- 20, R49
  unused21 : Word      -- 21, R37
  unused22 : Word      -- 22, R37
  unused23 : Word      -- 23, R37
  unused24 : Word      -- 24, R37
  unused25 : Word      -- 25, R37
  ecc : Word32         -- 26, R51
  tagLo : Word32       -- 28, R52
  tagHi : Word32       -- 29, R52
  errorEpc : Word      -- 30, R53
  unused31 : Word      -- 31, R37
deriving DecidableEq, Repr

/-- Something the environment does between two steps (R9, R66). -/
inductive EnvEvent where
  /-- `SetLine(k, level)`: interrupt line `k` changes its level (R510). -/
  | setLine (k : Fin 6) (level : Bool)
  /-- The cycle counter advances by `n` more cycles (R66 (a)). -/
  | elapse (n : Nat)
  /-- Another actor writes one byte of physical memory (R9, R89). -/
  | writeByte (paddr : Nat) (b : Byte)
deriving DecidableEq, Repr

/-- The state of the core (R20), with the environment's inputs (R66) and the model's own fields. -/
structure State where
  /-- Program counter (R22). -/
  pc : Word
  /-- General registers `x[0..31]` (R21); read and written only through `readGpr` and `writeGpr`. -/
  gpr : Vector Word 32
  /-- Multiply/divide result halves (R24). -/
  hi : Word
  lo : Word
  /-- Branch pipeline (R23). -/
  branchState : BranchState
  branchTarget : Word
  /-- System-coprocessor data registers `cpr0` (R30). -/
  cp0 : Cp0
  /-- System-coprocessor control registers `ccr0` (R55). -/
  ccr0 : Vector Word32 32
  /-- Floating-point data registers `cpr1` (R56); read and written only through the views of R58 and R59. -/
  fpr : Vector Word 32
  /-- Floating-point control registers `ccr1` (R60); `ccr1[0]` holds `FPU_IMPREV`, `ccr1[31]` the FCSR cell (R61). -/
  ccr1 : Vector Word32 32
  /-- Floating condition bits `fcc[0..7]` (R62), bit `i` being `fcc[i]`. -/
  fcc : BitVec 8
  /-- System-coprocessor condition bits `cc0[0..7]` (R28). -/
  cc0 : BitVec 8
  /-- Atomic latches (R26). -/
  llValue : Word32
  lldValue : Word
  /-- Timer bookkeeping (R27). -/
  countZeroTime : Word
  compareArmed : Bool
  timerDeadline : Word
  /-- Translation lookaside buffer (R29). -/
  tlb : Vector TlbEntry 48
  /-- Physical memory behind the bus (R83), in the canonical form `Memory.wf`. -/
  mem : Memory
  /-- Environment input: the elapsed-cycle counter (R66 (a)). -/
  cycles : Word
  /-- Environment input: what the environment does before the coming steps, one list for each step (R9). -/
  inputs : List (List EnvEvent)
  /-- Model's own: how many free values have been drawn. -/
  draws : Nat
  /-- Model's own: how many steps have ended, the number of the step that `CYCLES_PER_STEP` is a function of (R8). -/
  steps : Nat
  /-- Model's own: the configuration (R8); nothing changes it. -/
  cfg : Config
deriving DecidableEq, Repr

/-- The result of an instruction or of a step. -/
abbrev Result := Host.Outcome State Fault Refusal

/-- The system-coprocessor registers after reset in a configuration (R68): Status, Wired, PRId and Config as the spec
states; the others are DESIGN CHOICE zero (assumption 1); the interrupt lines are low (assumption 2). -/
def Cp0.resetIn (c : Config) : Cp0 where
  index := 0
  entryLo0 := 0
  entryLo1 := 0
  context := 0
  pageMask := 0
  wired := 0
  unused7 := 0
  badVAddr := 0
  entryHi := 0
  compare := 0
  status := 0x00400004#32
  cause := 0
  epc := 0
  prid := c.prid
  config := c.configReset
  llAddr := 0
  watchLo := 0
  watchHi := 0
  xContext := 0
  unused21 := 0
  unused22 := 0
  unused23 := 0
  unused24 := 0
  unused25 := 0
  ecc := 0
  tagLo := 0
  tagHi := 0
  errorEpc := 0
  unused31 := 0

/-- A TLB entry after reset: `lo0.v = lo1.v = 0`; the other fields are DESIGN CHOICE zero (R29, D20). -/
def TlbEntry.reset : TlbEntry where
  mask := 0
  r := 0
  vpn2 := 0
  asid := 0
  g := false
  lo0 := 0
  lo1 := 0

/-- The machine right after reset (R540, R68) in a configuration (R8), with no environment input pending. Values the
spec leaves unspecified are zero (assumption 1). -/
def State.resetIn (c : Config) : State where
  pc := 0xFFFFFFFFBFC00000#64
  gpr := Vector.replicate 32 0
  hi := 0
  lo := 0
  branchState := .none
  branchTarget := 0
  cp0 := Cp0.resetIn c
  ccr0 := Vector.replicate 32 0
  fpr := Vector.replicate 32 0
  ccr1 := (Vector.replicate 32 0).set 0 c.fpuImprev
  fcc := 0
  cc0 := 0
  llValue := 0
  lldValue := 0
  countZeroTime := 0
  compareArmed := false
  timerDeadline := 0
  tlb := Vector.replicate 48 TlbEntry.reset
  mem := []
  cycles := 0
  inputs := []
  draws := 0
  steps := 0
  cfg := c

/-- The machine right after reset in the default configuration of R8. -/
def State.reset : State := State.resetIn Config.default

end Sys2Proof.Machine
end

