-- ==== Sys2Proof/Machine/Bits.lean ====
section
/-! DEFINITION. Bit-field and extension helpers in the notation of spec/00_scope.md R11. -/

namespace Sys2Proof.Machine

/-- `sext_n(v)`: the low `n` bits of `v` sign-extended to 64 bits (R11). -/
def sext (n : Nat) (v : Word) : Word := (v.setWidth n).signExtend 64

/-- `zext_n(v)`: the low `n` bits of `v` zero-extended to 64 bits (R11). -/
def zext (n : Nat) (v : Word) : Word := (v.setWidth n).setWidth 64

/-- `v[31:0]`. -/
def lo32 (v : Word) : Word32 := v.setWidth 32

/-- `v[63:32]`. -/
def hi32 (v : Word) : Word32 := v.extractLsb' 32 32

/-- `sext32` of a 32-bit value (R11). -/
def sext32 (v : Word32) : Word := v.signExtend 64

/-- `zext32` of a 32-bit value (R11). -/
def zext32 (v : Word32) : Word := v.setWidth 64

/-- `high || low` of two 32-bit halves (R11). -/
def join32 (high low : Word32) : Word := high ++ low

/-- `w` with the `len` bits from bit `lo` replaced by `v`. -/
def insertField {n len : Nat} (lo : Nat) (v : BitVec len) (w : BitVec n) : BitVec n :=
  (w &&& ~~~((BitVec.allOnes len).setWidth n <<< lo)) ||| (v.setWidth n <<< lo)

/-- The bits of `v` where `mask` has ones, the bits of `old` elsewhere (the write rule of R30). -/
def maskMerge {n : Nat} (mask old v : BitVec n) : BitVec n := (old &&& ~~~mask) ||| (v &&& mask)

/-- A register number is an index of a 32-entry register file. -/
theorem reg_lt (r : Reg) : r.toNat < 32 := r.isLt

end Sys2Proof.Machine
end

