-- ==== Sys2Proof/Machine/Memory.lean ====
section
/-! DEFINITION. Physical memory behind the bus and the bus primitives (spec/20_memory.md R83 to R87). Memory is an
array of bytes (R87); the platform's failing addresses are `Config.busHoles` (R86, U9). -/

namespace Sys2Proof.Machine

/-- What a byte of memory that nothing has written reads as. The spec leaves memory contents to the platform (R94);
zero is the convention of spec/95_test_vectors.md section 3 (assumption 4). DESIGN CHOICE, unsafe. -/
def unlistedByte : Byte := 0

/-- The byte at a physical address. -/
def Memory.readByte : Memory → Nat → Byte
  | [], _ => unlistedByte
  | (k, b) :: rest, a => if k = a then b else Memory.readByte rest a

/-- Memory with the byte at `a` made `b`; the canonical form is kept. -/
def Memory.writeByte : Memory → Nat → Byte → Memory
  | [], a, b => if b = unlistedByte then [] else [(a, b)]
  | (k, c) :: rest, a, b =>
    if a < k then if b = unlistedByte then (k, c) :: rest else (a, b) :: (k, c) :: rest
    else if a = k then if b = unlistedByte then rest else (a, b) :: rest
    else (k, c) :: Memory.writeByte rest a b

/-- The canonical form: addresses strictly rising, and no entry equal to what an unlisted address reads as. -/
def Memory.wf (m : Memory) : Bool :=
  decide (m.Pairwise fun x y => x.1 < y.1) && m.all fun x => decide (x.2 ≠ unlistedByte)

/-- The address of byte lane `k` (0 = least significant) of an `n`-byte access at `pa` (R87). -/
def laneAddr (bigEndian : Bool) (pa n k : Nat) : Nat :=
  if bigEndian then pa + (n - 1 - k) else pa + k

/-- The value of the lowest `k` lanes of an `n`-byte access at `pa`. -/
def readLanes (bigEndian : Bool) (m : Memory) (pa n : Nat) : Nat → Word
  | 0 => 0
  | k + 1 =>
    readLanes bigEndian m pa n k ||| (m.readByte (laneAddr bigEndian pa n k)).setWidth 64 <<< (8 * k)

/-- Byte `k` of a value. -/
def laneByte (v : Word) (k : Nat) : Byte := v.extractLsb' (8 * k) 8

/-- Memory after the lowest `k` lanes of an `n`-byte write at `pa`: the lanes that `mask` selects are written, the
others are not (R85). -/
def writeLanes (bigEndian : Bool) (m : Memory) (pa n : Nat) (v mask : Word) : Nat → Memory
  | 0 => m
  | k + 1 =>
    let m' := writeLanes bigEndian m pa n v mask k
    if laneByte mask k = 0xFF#8 then m'.writeByte (laneAddr bigEndian pa n k) (laneByte v k) else m'

/-- Whether the platform answers `fault` to an access of `n` bytes at `pa`: some byte of it lies in a failing range
(R86). -/
def busFails (cfg : Config) (isWrite : Bool) (pa n : Nat) : Bool :=
  cfg.busHoles.any fun h =>
    (if isWrite then h.onWrite else h.onRead) && decide (pa < h.base + h.size ∧ h.base < pa + n)

/-- `BusRead` (R84): the `n` bytes at `pa`, or `none` for `fault`. -/
def busRead (s : State) (pa n : Nat) : Option Word :=
  if busFails s.cfg false pa n then none else some (readLanes s.cfg.bigEndian s.mem pa n n)

/-- `BusWrite` (R85): the memory after the write, or `none` for `fault`. -/
def busWrite (s : State) (pa n : Nat) (v mask : Word) : Option Memory :=
  if busFails s.cfg true pa n then none
  else some (writeLanes s.cfg.bigEndian s.mem pa n v mask n)

end Sys2Proof.Machine
end

