-- ==== Sys2Proof/Machine/Translate.lean ====
section
/-! DEFINITION. Privilege mode and address translation (spec/10_state.md R64, spec/20_memory.md R100 to R118). -/

namespace Sys2Proof.Machine

/-! ### Status fields and the mode (R42, R64) -/

/-- Bit `i` of Status. -/
def statusBit (s : State) (i : Nat) : Bool := s.cp0.status.getLsbD i

/-- `Status.EXL` (R42). -/
def statusExl (s : State) : Bool := statusBit s 1

/-- `Status.ERL` (R42). -/
def statusErl (s : State) : Bool := statusBit s 2

/-- `Status.KSU` (R42). -/
def statusKsu (s : State) : BitVec 2 := s.cp0.status.extractLsb' 3 2

/-- `Mode()` (R64); `none` is the reserved case. -/
def mode (s : State) : Option Mode :=
  if statusExl s || statusErl s then some .kernel
  else match (statusKsu s).toNat with
    | 0 => some .kernel
    | 1 => some .supervisor
    | 2 => some .user
    | _ => none

/-- `Addr64()` in a mode: `Status.KX`, `SX` or `UX` (R101). -/
def addr64 (m : Mode) (s : State) : Bool :=
  match m with
  | .kernel => statusBit s 7
  | .supervisor => statusBit s 6
  | .user => statusBit s 5

/-! ### Segments (R102 to R104) -/

/-- How the addresses of a segment reach physical memory (R104). -/
inductive SegmentKind where
  | mapped
  | unmappedCached
  | unmappedUncached
  | physicalWindow
deriving DecidableEq, Repr

/-- One row of a segment table: the addresses `first` to `last`, in one mode. -/
structure SegmentRow where
  mode : Mode
  first : Nat
  last : Nat
  kind : SegmentKind
deriving DecidableEq, Repr

/-- The segments under 32-bit addressing, by the low 32 bits of the address (R102). -/
def segments32 : List SegmentRow := [
  ⟨.user, 0x00000000, 0x7FFFFFFF, .mapped⟩,                -- useg
  ⟨.supervisor, 0x00000000, 0x7FFFFFFF, .mapped⟩,          -- suseg
  ⟨.supervisor, 0xC0000000, 0xDFFFFFFF, .mapped⟩,          -- sseg
  ⟨.kernel, 0x00000000, 0x7FFFFFFF, .mapped⟩,              -- kuseg
  ⟨.kernel, 0x80000000, 0x9FFFFFFF, .unmappedCached⟩,      -- kseg0
  ⟨.kernel, 0xA0000000, 0xBFFFFFFF, .unmappedUncached⟩,    -- kseg1
  ⟨.kernel, 0xC0000000, 0xDFFFFFFF, .mapped⟩,              -- ksseg
  ⟨.kernel, 0xE0000000, 0xFFFFFFFF, .mapped⟩]              -- kseg3

/-- The segments under 64-bit addressing (R103). -/
def segments64 : List SegmentRow := [
  ⟨.user, 0x0000000000000000, 0x000000FFFFFFFFFF, .mapped⟩,              -- xuseg
  ⟨.supervisor, 0x0000000000000000, 0x000000FFFFFFFFFF, .mapped⟩,        -- xsuseg
  ⟨.supervisor, 0x4000000000000000, 0x400000FFFFFFFFFF, .mapped⟩,        -- xsseg
  ⟨.supervisor, 0xFFFFFFFFC0000000, 0xFFFFFFFFDFFFFFFF, .mapped⟩,        -- csseg
  ⟨.kernel, 0x0000000000000000, 0x000000FFFFFFFFFF, .mapped⟩,            -- xkuseg
  ⟨.kernel, 0x4000000000000000, 0x400000FFFFFFFFFF, .mapped⟩,            -- xksseg
  ⟨.kernel, 0x8000000000000000, 0xBFFFFFFFFFFFFFFF, .physicalWindow⟩,    -- xkphys
  ⟨.kernel, 0xC000000000000000, 0xC00000FF7FFFFFFF, .mapped⟩,            -- xkseg
  ⟨.kernel, 0xFFFFFFFF80000000, 0xFFFFFFFF9FFFFFFF, .unmappedCached⟩,    -- ckseg0
  ⟨.kernel, 0xFFFFFFFFA0000000, 0xFFFFFFFFBFFFFFFF, .unmappedUncached⟩,  -- ckseg1
  ⟨.kernel, 0xFFFFFFFFC0000000, 0xFFFFFFFFDFFFFFFF, .mapped⟩,            -- cksseg
  ⟨.kernel, 0xFFFFFFFFE0000000, 0xFFFFFFFFFFFFFFFF, .mapped⟩]            -- ckseg3

/-- The kind of the row of `table` that holds address `a` in mode `m`, if there is one. -/
def segmentAt (table : List SegmentRow) (m : Mode) (a : Nat) : Option SegmentKind :=
  (table.find? fun r => decide (r.mode = m ∧ r.first ≤ a ∧ a ≤ r.last)).map (·.kind)

/-- `Classify` (R100 step 1): the segment kind of an address. Under 32-bit addressing only sign extensions of 32-bit
values are inside a segment (R102); an xkphys address needs `vaddr[58:36] = 0` (R103). -/
def classify (m : Mode) (wide : Bool) (va : Word) : Option SegmentKind :=
  if wide then
    match segmentAt segments64 m va.toNat with
    | some .physicalWindow => if va.extractLsb' 36 23 = 0 then some .physicalWindow else none
    | k => k
  else if va = sext32 (lo32 va) then segmentAt segments32 m (lo32 va).toNat
  else none

/-- `UnmappedPA` and the attributes of an unmapped segment (R104); the other kinds are not unmapped. -/
def unmappedTarget (s : State) (kind : SegmentKind) (va : Word) : Nat × Attr :=
  match kind with
  | .unmappedCached => ((va.extractLsb' 0 29).toNat, ⟨s.cp0.config.extractLsb' 0 3, false⟩)
  | .unmappedUncached => ((va.extractLsb' 0 29).toNat, ⟨2#3, false⟩)
  | .physicalWindow => ((va.extractLsb' 0 36).toNat, ⟨va.extractLsb' 59 3, false⟩)
  | .mapped => ((va.extractLsb' 0 29).toNat, ⟨2#3, false⟩)

/-! ### The TLB (R29, R110, R111) -/

/-- The even/odd select bit of a MASK value (the table of R35); `none` for a MASK outside the table (U12). -/
def pageBits (mask : BitVec 12) : Option Nat :=
  match mask.toNat with
  | 0x000 => some 12
  | 0x003 => some 14
  | 0x00F => some 16
  | 0x03F => some 18
  | 0x0FF => some 20
  | 0x3FF => some 22
  | 0xFFF => some 24
  | _ => none

/-- The VPN2 bits that an entry compares: `~zext_27(mask)` (R110). -/
def keepBits (e : TlbEntry) : BitVec 27 := ~~~(e.mask.setWidth 27)

/-- Global, or tagged with the current address space (R110, R464). -/
def asidMatches (e : TlbEntry) (asid : BitVec 8) : Bool := e.g || decide (e.asid = asid)

/-- Region and masked VPN2 of the entry equal those of an address or of EntryHi, all bits (R110 with `a64`, R464). -/
def vpnMatches64 (e : TlbEntry) (v : Word) : Bool :=
  decide (v.extractLsb' 62 2 = e.r) &&
    decide (v.extractLsb' 13 27 &&& keepBits e = e.vpn2 &&& keepBits e)

/-- Masked VPN2 of the entry equals that of an address, address bits 31:13 only (R110 without `a64`). -/
def vpnMatches32 (e : TlbEntry) (v : Word) : Bool :=
  decide (v.extractLsb' 13 19 &&& (keepBits e).extractLsb' 0 19 =
    e.vpn2.extractLsb' 0 19 &&& (keepBits e).extractLsb' 0 19)

/-- The entry matches the address in the address space (R110). -/
def entryMatches (wide : Bool) (asid : BitVec 8) (va : Word) (e : TlbEntry) : Bool :=
  (if wide then vpnMatches64 e va else vpnMatches32 e va) && asidMatches e asid

/-- `TLBLookup` (R110): the first matching entry in index order, with its page bits. An entry whose MASK is outside
the table of R35 never matches a translation, as U12 allows (assumption 5). -/
def tlbLookup (wide : Bool) (asid : BitVec 8) (va : Word) (entries : List TlbEntry) : Option (TlbEntry × Nat) :=
  entries.findSome? fun e =>
    match pageBits e.mask with
    | some pb => if entryMatches wide asid va e then some (e, pb) else none
    | none => none

/-- `EntryHi.ASID` (R40). -/
def currentAsid (s : State) : BitVec 8 := s.cp0.entryHi.extractLsb' 0 8

/-- The half of an entry that an address selects: the bit just above the page offset (R111). -/
def selectHalf (e : TlbEntry) (pb : Nat) (va : Word) : BitVec 29 := if va.getLsbD pb then e.lo1 else e.lo0

/-- `pfn` of an entry half (R29). -/
def halfPfn (h : BitVec 29) : BitVec 24 := h.extractLsb' 5 24

/-- `c` of an entry half (R29). -/
def halfC (h : BitVec 29) : BitVec 3 := h.extractLsb' 2 3

/-- `d` of an entry half (R29). -/
def halfD (h : BitVec 29) : Bool := h.getLsbD 1

/-- `v` of an entry half (R29). -/
def halfV (h : BitVec 29) : Bool := h.getLsbD 0

/-- `PA` of R111: frame bits above the page offset from `pfn`, offset bits from the address, within `PABITS`. -/
def mappedPa (paBits pb : Nat) (pfn : BitVec 24) (va : Word) : Nat :=
  (pfn.toNat * 2 ^ 12 / 2 ^ pb * 2 ^ pb + va.toNat % 2 ^ pb) % 2 ^ paBits

/-! ### Translation (R100) -/

/-- `AddressError` (R105). -/
def addressError (va : Word) (intent : Intent) : Exc :=
  match intent with
  | .write => .ades va
  | .fetch | .read => .adel va

/-- `TLBRefill` and `TLBInvalid` (R113, R114). -/
def tlbException (va : Word) (intent : Intent) (why : TlbFailure) : Exc :=
  match intent with
  | .write => .tlbs va why
  | .fetch | .read => .tlbl va why

/-- Steps 3 to 6 of R100: translation through the TLB. The check order is match, then `v`, then `d` (R113). -/
def translateMapped (s : State) (va : Word) (intent : Intent) (wide : Bool) : Access (Nat × Attr) :=
  match tlbLookup wide (currentAsid s) va s.tlb.toList with
  | none => .raised (tlbException va intent (.refill wide))
  | some (e, pb) =>
    let h := selectHalf e pb va
    if !halfV h then .raised (tlbException va intent .invalid)
    else if decide (intent = .write) && !halfD h then .raised (.tlbMod va)
    else .ok (mappedPa s.cfg.paBits pb (halfPfn h) va, ⟨halfC h, e.g⟩)

/-- Step 2 of R100: an unmapped segment. A physical address outside the `PABITS` space does not exist (R80). -/
def translateUnmapped (s : State) (kind : SegmentKind) (va : Word) : Access (Nat × Attr) :=
  let t := unmappedTarget s kind va
  if t.1 < 2 ^ s.cfg.paBits then .ok t else .fault .noSuchPhysicalAddress

/-- `Translate(vaddr, intent)` (R100); the reserved mode is refused (R106). -/
def translate (s : State) (va : Word) (intent : Intent) : Access (Nat × Attr) :=
  match mode s with
  | none => .refused .reservedMode
  | some m =>
    match classify m (addr64 m s) va with
    | none => .raised (addressError va intent)
    | some .mapped => translateMapped s va intent (addr64 m s)
    | some kind => translateUnmapped s kind va

/-- `TranslateProbe` (R117): the host's side-effect-free translation. -/
def translateProbe (s : State) (va : Word) (intent : Intent) : Option (Nat × Attr) :=
  match translate s va intent with
  | .ok r => some r
  | _ => none

end Sys2Proof.Machine
end

