-- ==== Sys2Proof/Machine/Ops.lean ====
section
/-! DEFINITION. The operations every instruction is built from: registers, the branch pipeline, exception entry and
return, data accesses, the timer and interrupts, the system-coprocessor registers, and the TLB entries. -/

namespace Sys2Proof.Machine

/-! ### General registers -/

/-- `x[r]` as an instruction reads it (R21): register 0 always reads 0. -/
def readGpr (r : Reg) (s : State) : Word := if r = 0 then 0 else s.gpr[r.toNat]'(reg_lt r)

/-- `x[r] <- v` (R21): a write to register 0 is discarded (D48). -/
def writeGpr (r : Reg) (v : Word) (s : State) : State :=
  if r = 0 then s else { s with gpr := s.gpr.set r.toNat v (reg_lt r) }

/-! ### Branch pipeline (R241, R242) -/

/-- `TakeBranch(t)` (R242). -/
def takeBranch (target : Word) (s : State) : State := { s with branchTarget := target, branchState := .branch }

/-- `NullifySlot()` (R242). -/
def nullifySlot (s : State) : State := { s with branchState := .nullify }

/-- `ResolveBranchPipeline()` (R241). -/
def resolveBranchPipeline (s : State) : State :=
  match s.branchState with
  | .none => { s with pc := s.pc + 4 }
  | .delay => { s with pc := s.branchTarget, branchState := .none }
  | .branch => { s with pc := s.pc + 4, branchState := .delay }
  | .exception => { s with branchState := .none }
  | .nullify => { s with pc := s.pc + 8, branchState := .none }

/-! ### Exception entry (R500 to R506) -/

/-- `code(E)` (R490). -/
def excCode : Exc → BitVec 5
  | .interrupt => 0
  | .tlbMod _ => 1
  | .tlbl _ _ => 2
  | .tlbs _ _ => 3
  | .adel _ => 4
  | .ades _ => 5
  | .ibe => 6
  | .dbe => 7
  | .syscall => 8
  | .breakpoint => 9
  | .reservedInstruction => 10
  | .coprocessorUnusable _ => 11
  | .overflow => 12
  | .trap => 13

/-- What step 3 of R500 puts into `Cause.CE`. -/
def excCoprocessor : Exc → BitVec 2
  | .coprocessorUnusable n => n
  | _ => 0

/-- `VectorOffset(E)` (R501): the refill vectors, `0x180` for everything else. -/
def vectorOffset : Exc → Word
  | .tlbl _ (.refill wide) | .tlbs _ (.refill wide) => if wide then 0x080#64 else 0x000#64
  | _ => 0x180#64

/-- `VectorBase()` (R501), by `Status.BEV`. -/
def vectorBase (s : State) : Word :=
  if statusBit s 22 then 0xFFFFFFFFBFC00200#64 else 0xFFFFFFFF80000000#64

/-- The fault registers of a TLB exception (R505). -/
def loadTlbFault (va : Word) (c : Cp0) : Cp0 :=
  { c with
    badVAddr := va
    context := insertField 4 (va.extractLsb' 13 19) c.context
    xContext := insertField 31 (va.extractLsb' 62 2) (insertField 4 (va.extractLsb' 13 27) c.xContext)
    entryHi := insertField 62 (va.extractLsb' 62 2) (insertField 13 (va.extractLsb' 13 27) c.entryHi) }

/-- Step 1 of R500: the exception's own registers (R504, R505, R506), whatever `EXL` is. -/
def loadFaultRegisters (e : Exc) (c : Cp0) : Cp0 :=
  match e with
  | .adel va | .ades va => { c with badVAddr := va }
  | .tlbMod va | .tlbl va _ | .tlbs va _ => loadTlbFault va c
  | _ => c

/-- `EPC` of step 2 of R500 when `EXL = 0`: the instruction, or the branch before it. -/
def restartPc (s : State) : Word := if s.branchState = .delay then s.pc - 4 else s.pc

/-- `Cause` after steps 2 and 3 of R500: `BD` unless `EXL` was set, `ExcCode`, `CE`. -/
def causeOnEntry (e : Exc) (s : State) : Word32 :=
  let withBd :=
    if statusExl s then s.cp0.cause
    else insertField 31 (BitVec.ofBool (decide (s.branchState = .delay))) s.cp0.cause
  insertField 28 (excCoprocessor e) (insertField 2 (excCode e) withBd)

/-- `Raise(E)` (R500): taking an exception. -/
def raise (e : Exc) (s : State) : State :=
  let c := loadFaultRegisters e s.cp0
  { s with
    cp0 := { c with
      epc := if statusExl s then c.epc else restartPc s
      cause := causeOnEntry e s
      status := s.cp0.status ||| 2#32 }
    pc := vectorBase s + (if statusExl s then 0x180#64 else vectorOffset e)
    branchState := .exception }

/-! ### Exception return (R470) -/

/-- `LATCH_FLIP32` (R8, R470): the most significant bit inverted, or the implementation's own function; `f v ≠ v` in
every case (U7). -/
def flipLatch32 (cfg : Config) (v : Word32) : Word32 :=
  match cfg.latchFlip with
  | .specDefault => v ^^^ 0x80000000#32
  | .own => if Config.ownLatchFlip32 v = v then v ^^^ 0x80000000#32 else Config.ownLatchFlip32 v

/-- `LATCH_FLIP64` (R8, R470). -/
def flipLatch64 (cfg : Config) (v : Word) : Word :=
  match cfg.latchFlip with
  | .specDefault => v ^^^ 0x8000000000000000#64
  | .own => if Config.ownLatchFlip64 v = v then v ^^^ 0x8000000000000000#64 else Config.ownLatchFlip64 v

/-- Returning from an exception (R470): through ErrorEPC and `ERL` when `ERL` is set, else through EPC and `EXL`. -/
def returnFromException (s : State) : State :=
  { s with
    pc := if statusErl s then s.cp0.errorEpc else s.cp0.epc
    cp0 := { s.cp0 with
      status := if statusErl s then s.cp0.status &&& ~~~4#32 else s.cp0.status &&& ~~~2#32 }
    branchState := .exception
    llValue := flipLatch32 s.cfg s.llValue
    lldValue := flipLatch64 s.cfg s.lldValue }

/-! ### Data accesses (R88 to R92) -/

/-- An access that goes on with `k` when it succeeds. -/
def Access.bind {α β : Type} (a : Access α) (k : α → Access β) : Access β :=
  match a with
  | .ok v => k v
  | .raised e => .raised e
  | .fault f => .fault f
  | .refused r => .refused r

/-- An instruction that goes on with `k` when its access succeeds, and otherwise takes the access's exception with
nothing else changed (R280, R509), or stops where the access stops. -/
def withAccess {α : Type} (a : Access α) (s : State) (k : α → Result) : Result :=
  match a with
  | .ok v => k v
  | .raised e => .next (raise e s)
  | .fault f => .fault f
  | .refused r => .refused r

/-- A data address that is not a multiple of the access width (R88). -/
def misaligned (va : Word) (n : Nat) : Bool := decide (va.toNat % n ≠ 0)

/-- `MemRead(vaddr, n)` (R90). -/
def memRead (s : State) (va : Word) (n : Nat) : Access Word :=
  if misaligned va n then .raised (.adel va)
  else (translate s va .read).bind fun t =>
    match busRead s t.1 n with
    | none => .raised .dbe
    | some v => .ok v

/-- `MemWriteMasked(vaddr, n, v, m)` (R92): the memory after the store. -/
def memWriteMasked (s : State) (va : Word) (n : Nat) (v mask : Word) : Access Memory :=
  if misaligned va n then .raised (.ades va)
  else (translate s va .write).bind fun t =>
    match busWrite s t.1 n v mask with
    | none => .raised .dbe
    | some m => .ok m

/-- `MemWrite(vaddr, n, v)` (R91): the full-width store. -/
def memWrite (s : State) (va : Word) (n : Nat) (v : Word) : Access Memory :=
  memWriteMasked s va n v (BitVec.allOnes 64)

/-- The read, the compare and the write of a store-conditional of `n` bytes (R304, R305): the new memory when the value
read equals `latch`, `none` when it does not. -/
def memConditionalWrite (s : State) (va : Word) (n : Nat) (latch v : Word) : Access (Option Memory) :=
  if misaligned va n then .raised (.ades va)
  else (translate s va .write).bind fun t =>
    match busRead s t.1 n with
    | none => .raised .dbe
    | some cur =>
      if cur = latch then
        match busWrite s t.1 n v (BitVec.allOnes 64) with
        | none => .raised .dbe
        | some m => .ok (some m)
      else .ok none

/-! ### Instruction fetch (R118, R10 steps 1 and 2) -/

/-- `TranslateFetch(pc)` (R118): the physical address of the instruction word. -/
def translateFetch (s : State) : Access Nat :=
  if s.pc.extractLsb' 0 2 ≠ 0 then .raised (.adel s.pc)
  else (translate s s.pc .fetch).bind fun t => .ok t.1

/-- The instruction word at the program counter (R10 steps 1 and 2, R118). -/
def fetchWord (s : State) : Access Word32 :=
  (translateFetch s).bind fun pa =>
    match busRead s pa 4 with
    | none => .raised .ibe
    | some v => .ok (lo32 v)

/-! ### Timer and interrupts (R510 to R523) -/

/-- Cycles since Count was zero. -/
def elapsedCycles (s : State) : Nat := (s.cycles - s.countZeroTime).toNat

/-- `CountValue()` (R39, R520). -/
def countValue (s : State) : Word32 := BitVec.ofNat 32 (elapsedCycles s / s.cfg.countDiv)

/-- `delta` of `Rearm()` (R523): counts until Count next equals Compare, a full period when they are equal now. -/
def countsToMatch (s : State) : Nat :=
  let delta := (s.cp0.compare - countValue s).toNat
  if delta = 0 then 2 ^ 32 else delta

/-- `Rearm()` (R523). -/
def rearm (s : State) : State :=
  { s with
    timerDeadline := s.cycles - BitVec.ofNat 64 (elapsedCycles s % s.cfg.countDiv) +
      BitVec.ofNat 64 (countsToMatch s * s.cfg.countDiv)
    compareArmed := true }

/-- A write of Count (R521). -/
def writeCount (v : Word32) (s : State) : State :=
  rearm { s with countZeroTime := s.cycles - BitVec.ofNat 64 (v.toNat * s.cfg.countDiv) }

/-- Cause with interrupt-pending bit `k` (`IPk`) at a level (R43, R510). -/
def causeWithIp (k : Nat) (level : Bool) (cause : Word32) : Word32 :=
  insertField (8 + k) (BitVec.ofBool level) cause

/-- A write of Compare (R522). -/
def writeCompare (v : Word32) (s : State) : State :=
  rearm { s with cp0 := { s.cp0 with compare := v, cause := causeWithIp 7 false s.cp0.cause } }

/-- Whether the deadline of an armed timer has come (R523). -/
def timerDue (s : State) : Bool := s.compareArmed && decide (s.timerDeadline ≤ s.cycles)

/-- The deadline after the loop of `TimerCheck()` (R523): the first one after `cycles`, whole periods on
(assumption 13). -/
def nextDeadline (s : State) : Word :=
  let period := 2 ^ 32 * s.cfg.countDiv
  s.timerDeadline + BitVec.ofNat 64 (((s.cycles.toNat - s.timerDeadline.toNat) / period + 1) * period)

/-- `TimerCheck()` (R523). -/
def timerCheck (s : State) : State :=
  if timerDue s then
    { s with
      cp0 := { s.cp0 with cause := causeWithIp 7 true s.cp0.cause }
      timerDeadline := nextDeadline s }
  else s

/-- `InterruptPending()` (R512). -/
def interruptPending (s : State) : Bool :=
  decide (s.cp0.cause.extractLsb' 8 8 &&& s.cp0.status.extractLsb' 8 8 ≠ 0) &&
    statusBit s 0 && !statusExl s && !statusErl s

/-! ### Environment (R9, R66, R510) -/

/-- What one event of the environment does, between two steps. -/
def applyEvent (s : State) : EnvEvent → State
  | .setLine k level => { s with cp0 := { s.cp0 with cause := causeWithIp (k.val + 2) level s.cp0.cause } }
  | .elapse n => { s with cycles := s.cycles + BitVec.ofNat 64 n }
  | .writeByte paddr b => { s with mem := s.mem.writeByte paddr b }

/-- The environment's events before this step, in order; they are then used up. -/
def deliverInputs (s : State) : State :=
  match s.inputs with
  | [] => s
  | events :: later => events.foldl applyEvent { s with inputs := later }

/-- `CYCLES_PER_STEP` of the step that is running (R8). -/
def cyclesOfStep (s : State) : Nat :=
  match s.cfg.cyclesPerStep with
  | .every n => n
  | .own => Config.ownCyclesPerStep s.steps

/-- The end of a step (R10 steps 4 and 5), and the advance of `cycles` to the next one (R66 (a)). -/
def retire (s : State) : State :=
  let r := resolveBranchPipeline s
  { r with
    gpr := r.gpr.set 0 0
    cycles := r.cycles + BitVec.ofNat 64 (cyclesOfStep r)
    steps := r.steps + 1 }

/-! ### System-coprocessor registers (R30 to R53, R451, R458) -/

/-- `CP0Usable()` (R451). -/
def cp0Usable (s : State) : Bool := decide (mode s = some .kernel) || statusBit s 28

/-- Whether coprocessor `n` has its Status `CU` bit set (R42). -/
def coprocessorEnabled (s : State) (n : BitVec 2) : Bool := statusBit s (28 + n.toNat)

/-- An instruction that needs the system coprocessor: R451 before anything else. -/
def requireCp0 (s : State) (k : Result) : Result :=
  if cp0Usable s then k else .next (raise (.coprocessorUnusable 0) s)

/-- An instruction that needs the floating-point unit: R360 before anything else. -/
def requireCp1 (s : State) (k : Result) : Result :=
  if coprocessorEnabled s 1 then k else .next (raise (.coprocessorUnusable 1) s)

/-- `Wired` (R36). -/
def wired (s : State) : Nat := (s.cp0.wired.extractLsb' 0 6).toNat

/-- The number from which `RandomValue()` is made: elapsed cycles by default (D24), or a free value. Above 47 wired
entries there is no default (U13). -/
def randomSource (s : State) : Nat :=
  if wired s ≤ 47 ∧ s.cfg.randomDraw = .specDefault then elapsedCycles s else Config.freeIndex s.draws

/-- `RandomValue()` (R32, R463): an unwired entry, or any entry when none is unwired. -/
def randomValue (s : State) : Nat :=
  if wired s ≤ 47 then wired s + randomSource s % (48 - wired s) else randomSource s % 48

/-- `RandomValue()` and the state after it, in which that draw is used up. -/
def drawRandom (s : State) : Nat × State := (randomValue s, { s with draws := s.draws + 1 })

/-- The cells of `CP0Read(n)` (R30): every register but Random (1), which is drawn, is a function of the state. -/
def cp0Cell (n : Reg) (s : State) : Word :=
  match n.toNat with
  | 0 => zext32 s.cp0.index
  | 2 => s.cp0.entryLo0
  | 3 => s.cp0.entryLo1
  | 4 => s.cp0.context
  | 5 => zext32 s.cp0.pageMask
  | 6 => zext32 s.cp0.wired
  | 7 => s.cp0.unused7
  | 8 => s.cp0.badVAddr
  | 9 => zext32 (countValue s)
  | 10 => s.cp0.entryHi
  | 11 => zext32 s.cp0.compare
  | 12 => zext32 s.cp0.status
  | 13 => zext32 s.cp0.cause
  | 14 => s.cp0.epc
  | 15 => zext32 s.cp0.prid
  | 16 => zext32 s.cp0.config
  | 17 => zext32 s.cp0.llAddr
  | 18 => zext32 s.cp0.watchLo
  | 19 => zext32 s.cp0.watchHi
  | 20 => s.cp0.xContext
  | 21 => s.cp0.unused21
  | 22 => s.cp0.unused22
  | 23 => s.cp0.unused23
  | 24 => s.cp0.unused24
  | 25 => s.cp0.unused25
  | 26 => zext32 s.cp0.ecc
  | 28 => zext32 s.cp0.tagLo
  | 29 => zext32 s.cp0.tagHi
  | 30 => s.cp0.errorEpc
  | 31 => s.cp0.unused31
  | _ => 0

/-- `CP0Read(n)` (R30) and the state after it. -/
def cp0Read (n : Reg) (s : State) : Word × State :=
  if n = 1 then
    let d := drawRandom s
    (BitVec.ofNat 64 d.1, d.2)
  else (cp0Cell n s, s)

/-- The stores of R458 into plain cells; Random, Count, Compare, BadVAddr, PRId and CacheErr are not among them. -/
def cp0Store (n : Reg) (v : Word) (c : Cp0) : Cp0 :=
  match n.toNat with
  | 0 => { c with index := lo32 v &&& 0x8000003F#32 }
  | 2 => { c with entryLo0 := v &&& 0x3FFFFFFF#64 }
  | 3 => { c with entryLo1 := v &&& 0x3FFFFFFF#64 }
  | 4 => { c with context := maskMerge 0xFFFFFFFFFF800000#64 c.context v }
  | 5 => { c with pageMask := lo32 v &&& 0x01FFE000#32 }
  | 6 => { c with wired := lo32 v &&& 0x3F#32 }
  | 7 => { c with unused7 := v }
  | 10 => { c with entryHi := v &&& 0xC00000FFFFFFE0FF#64 }
  | 12 => { c with status := lo32 v }
  | 13 => { c with cause := maskMerge 0x300#32 c.cause (lo32 v) }
  | 14 => { c with epc := v }
  | 16 => { c with config := maskMerge 0x3F#32 c.config (lo32 v) }
  | 17 => { c with llAddr := lo32 v }
  | 18 => { c with watchLo := lo32 v }
  | 19 => { c with watchHi := lo32 v }
  | 20 => { c with xContext := maskMerge 0xFFFFFFFE00000000#64 c.xContext v }
  | 21 => { c with unused21 := v }
  | 22 => { c with unused22 := v }
  | 23 => { c with unused23 := v }
  | 24 => { c with unused24 := v }
  | 25 => { c with unused25 := v }
  | 26 => { c with ecc := lo32 v }
  | 28 => { c with tagLo := lo32 v }
  | 29 => { c with tagHi := lo32 v }
  | 30 => { c with errorEpc := v }
  | 31 => { c with unused31 := v }
  | _ => c

/-- `CP0Write(n, v)` with the side effects of R458. -/
def cp0Write (n : Reg) (v : Word) (s : State) : State :=
  if n = 9 then writeCount (lo32 v) s
  else if n = 11 then writeCompare (lo32 v) s
  else { s with cp0 := cp0Store n v s.cp0 }

/-! ### TLB entries and registers (R460 to R464) -/

/-- The entry that `WriteEntry` stores (R460). -/
def entryImage (c : Cp0) : TlbEntry where
  mask := c.pageMask.extractLsb' 13 12
  r := c.entryHi.extractLsb' 62 2
  vpn2 := c.entryHi.extractLsb' 13 27
  asid := c.entryHi.extractLsb' 0 8
  g := c.entryLo0.getLsbD 0 && c.entryLo1.getLsbD 0
  lo0 := c.entryLo0.extractLsb' 1 29
  lo1 := c.entryLo1.extractLsb' 1 29

/-- `WriteEntry(i)` (R460); an index above 47 names no entry (R462). -/
def writeEntry (i : Nat) (s : State) : State :=
  if h : i < 48 then { s with tlb := s.tlb.set i (entryImage s.cp0) h } else s

/-- PageMask as `ReadEntry` leaves it (R460). -/
def pageMaskOf (e : TlbEntry) : Word32 := e.mask.setWidth 32 <<< 13

/-- EntryHi as `ReadEntry` leaves it (R460). -/
def entryHiOf (e : TlbEntry) : Word :=
  (e.r.setWidth 64 <<< 62) ||| (e.vpn2.setWidth 64 <<< 13) ||| e.asid.setWidth 64

/-- EntryLo0 or EntryLo1 as `ReadEntry` leaves it (R460). -/
def entryLoOf (half : BitVec 29) (g : Bool) : Word :=
  (half.setWidth 64 <<< 1) ||| (BitVec.ofBool g).setWidth 64

/-- The registers that `ReadEntry` loads from an entry (R460). -/
def loadEntry (e : TlbEntry) (c : Cp0) : Cp0 :=
  { c with
    pageMask := pageMaskOf e
    entryHi := entryHiOf e
    entryLo0 := entryLoOf e.lo0 e.g
    entryLo1 := entryLoOf e.lo1 e.g }

/-- `ReadEntry(i)` (R460); an index above 47 names no entry (R461). -/
def readEntry (i : Nat) (s : State) : State :=
  if h : i < 48 then { s with cp0 := loadEntry (s.tlb[i]'h) s.cp0 } else s

/-- `Index[5:0]` (R31). -/
def indexField (s : State) : Nat := (s.cp0.index.extractLsb' 0 6).toNat

/-- Whether an entry answers a probe with EntryHi (R464): all bits are compared, whatever the addressing width. -/
def probeMatches (entryHi : Word) (e : TlbEntry) : Bool :=
  vpnMatches64 e entryHi && asidMatches e (entryHi.extractLsb' 0 8)

/-- The index of the first entry that answers a probe (R464). -/
def probeIndex (s : State) : Option Nat := s.tlb.toList.findIdx? (probeMatches s.cp0.entryHi)

/-- Index after a probe (R464): the entry's number, or the sentinel. -/
def probeResult (s : State) : Word32 :=
  match probeIndex s with
  | some i => BitVec.ofNat 32 i
  | none => 0x80000000#32

end Sys2Proof.Machine
end

