-- ==== Sys2Proof/Machine/Operands.lean ====
section
/-! DEFINITION. Every operand form of the instructions: immediates, branch and jump targets, data addresses, shift
amounts, the partial-word shifts, and the two views of the floating-point registers. -/

namespace Sys2Proof.Machine

/-! ### Immediates (R143, R179 to R194, R330) -/

/-- `sext_16(imm)`. -/
def immSigned (imm : Imm16) : Word := imm.signExtend 64

/-- `zext_16(imm)`. -/
def immZero (imm : Imm16) : Word := imm.setWidth 64

/-- `sext32(imm << 16)` (R194). -/
def immUpper (imm : Imm16) : Word := sext32 (imm.setWidth 32 <<< 16)

/-! ### Branch and jump targets (R246, R250) -/

/-- `(pc + 4) + sext_18(offset << 2)`, the target of every pc-relative branch. -/
def branchTargetOf (offset : Imm16) (s : State) : Word := s.pc + 4 + (immSigned offset <<< 2)

/-- `(pc + 4)[63:28] || target || 0b00` (R246). -/
def jumpTargetOf (target : BitVec 26) (s : State) : Word :=
  (((s.pc + 4).extractLsb' 28 36 ++ target) ++ 0#2).setWidth 64

/-- `pc + 8`, the address after the delay slot (R245). -/
def linkAddress (s : State) : Word := s.pc + 8

/-! ### Data addresses (R280, R292) -/

/-- `va` of R280: base register plus displacement. -/
def effectiveAddress (base : Reg) (offset : Imm16) (s : State) : Word := readGpr base s + immSigned offset

/-- The address rounded down to a word (R292). -/
def wordBase (va : Word) : Word := va &&& ~~~3#64

/-- The address rounded down to a doubleword (R292). -/
def doubleBase (va : Word) : Word := va &&& ~~~7#64

/-! ### Shift amounts of the variable shifts (R198 to R200, R207 to R209) -/

/-- `x[rs][4:0]`. -/
def shift5 (rs : Reg) (s : State) : Nat := ((readGpr rs s).extractLsb' 0 5).toNat

/-- `x[rs][5:0]`. -/
def shift6 (rs : Reg) (s : State) : Nat := ((readGpr rs s).extractLsb' 0 6).toNat

/-! ### Partial-word shifts (R293) -/

/-- `X` of R293 without its mask: reverse-endian in user mode. -/
def reverseEndian (s : State) : Bool := statusBit s 25 && decide (mode s = some .user)

/-- A mask constant of R293: `ones`, or 0. -/
def onesIf (b : Bool) (ones : Nat) : Nat := if b then ones else 0

/-- `sL` of R293, the shift of the "left" instructions, for a width whose all-ones mask is `ones` (3 or 7). -/
def leftShift (s : State) (va : Word) (ones : Nat) : Nat :=
  8 * (((va.toNat &&& ones) ^^^ onesIf (!s.cfg.bigEndian) ones) ^^^ onesIf (reverseEndian s) ones)

/-- `sR` of R293, the shift of the "right" instructions. -/
def rightShift (s : State) (va : Word) (ones : Nat) : Nat :=
  8 * (((va.toNat &&& ones) ^^^ onesIf s.cfg.bigEndian ones) ^^^ onesIf (reverseEndian s) ones)

/-- The merge of `LWL` and `LDL` (R294, R298): the datum shifted left over the kept low bits of the register. -/
def mergeLeft {n : Nat} (old datum : BitVec n) (shift : Nat) : BitVec n :=
  (old &&& ~~~(BitVec.allOnes n <<< shift)) ||| (datum <<< shift)

/-- The merge of `LWR` and `LDR` (R295, R299): the datum shifted right under the kept high bits of the register. -/
def mergeRight {n : Nat} (old datum : BitVec n) (shift : Nat) : BitVec n :=
  (old &&& ~~~(BitVec.allOnes n >>> shift)) ||| (datum >>> shift)

/-! ### Floating-point register views (R57 to R59) -/

/-- `Status.FR` (R57). -/
def statusFr (s : State) : Bool := statusBit s 26

/-- The even cell of a pair: register number with bit 0 cleared (R58, R59). -/
def evenCell (n : Reg) : Reg := n &&& 0x1E#5

/-- Whether a 32-bit access under this `FR` uses the high half of the even cell (R58). -/
def usesHighHalf (n : Reg) (s : State) : Bool := !statusFr s && n.getLsbD 0

/-- The cell that a register number names (R58, R59). -/
def fprCell (n : Reg) (s : State) : Reg := if statusFr s then n else evenCell n

/-- `fpr64(n)` (R59). -/
def readFpr64 (n : Reg) (s : State) : Word := s.fpr[(fprCell n s).toNat]'(reg_lt _)

/-- `fpr64(n) <- v` (R59). -/
def writeFpr64 (n : Reg) (v : Word) (s : State) : State :=
  { s with fpr := s.fpr.set (fprCell n s).toNat v (reg_lt _) }

/-- `fpr32(n)` (R58). -/
def readFpr32 (n : Reg) (s : State) : Word32 :=
  if usesHighHalf n s then hi32 (readFpr64 n s) else lo32 (readFpr64 n s)

/-- `fpr32(n) <- v` (R58): the other half of the cell is unchanged (D16). -/
def writeFpr32 (n : Reg) (v : Word32) (s : State) : State :=
  let cell := readFpr64 n s
  writeFpr64 n (if usesHighHalf n s then join32 v (lo32 cell) else join32 (hi32 cell) v) s

end Sys2Proof.Machine
end

