-- ==== Sys2Proof/Machine/Flags.lean ====
section
/-! DEFINITION. Every flag computation: integer overflow (R170), the floating condition bits and the FCSR view
(R61, R62), the system-coprocessor condition (R28), and the rounding mode (R391). -/

namespace Sys2Proof.Machine

/-! ### Integer overflow (R171 to R181) -/

/-- The exact result does not fit `n` bits of two's complement. -/
def outOfRange (n : Nat) (exact : Int) : Bool := decide (exact < -2 ^ (n - 1) ∨ 2 ^ (n - 1) - 1 < exact)

/-- The exact sum overflows (R171, R175, R179, R181). -/
def addOverflows {n : Nat} (a b : BitVec n) : Bool := outOfRange n (a.toInt + b.toInt)

/-- The exact difference overflows (R173, R177). -/
def subOverflows {n : Nat} (a b : BitVec n) : Bool := outOfRange n (a.toInt - b.toInt)

/-! ### Floating condition bits and FCSR (R61, R62) -/

/-- `fcc[cc]`. -/
def readFcc (cc : Nat) (s : State) : Bool := s.fcc.getLsbD cc

/-- `fcc[cc] <- b`; the other seven bits are unchanged (R425). -/
def writeFcc (cc : Nat) (b : Bool) (s : State) : State :=
  { s with fcc := insertField cc (BitVec.ofBool b) s.fcc }

/-- The FCSR cell `ccr1[31]` (R61). -/
def fcsrCell (s : State) : Word32 := s.ccr1[31]

/-- `FCSRRead()` (R62). -/
def fcsrRead (s : State) : Word32 :=
  (fcsrCell s &&& 0x017FFFFF#32) ||| (s.fcc.extractLsb' 0 1).setWidth 32 <<< 23 |||
    (s.fcc.extractLsb' 1 7).setWidth 32 <<< 25

/-- `FCSRWrite(v)` (R62). -/
def fcsrWrite (v : Word32) (s : State) : State :=
  { s with ccr1 := s.ccr1.set 31 v, fcc := v.extractLsb' 25 7 ++ v.extractLsb' 23 1 }

/-- The rounding mode that an `RM` value selects (R61, R391). -/
def roundingModeOf (rm : BitVec 2) : RoundingMode :=
  match rm.toNat with
  | 0 => .nearestEven
  | 1 => .towardZero
  | 2 => .up
  | _ => .down

/-- `FCSR.RM` as a rounding mode. -/
def roundingMode (s : State) : RoundingMode := roundingModeOf ((fcsrCell s).extractLsb' 0 2)

/-- The three outcomes of a floating-point comparison that R425 combines. -/
structure CompareOutcome where
  less : Bool
  equal : Bool
  unordered : Bool
deriving DecidableEq, Repr

/-- The bit `C.cond` writes (R425): `cond` selects which outcomes count; `cond[3]` has no effect. -/
def conditionBit (cond : BitVec 4) (o : CompareOutcome) : Bool :=
  (cond.getLsbD 2 && o.less) || (cond.getLsbD 1 && o.equal) || (cond.getLsbD 0 && o.unordered)

/-! ### System-coprocessor condition (R28) -/

/-- `cc0[0]`, the only bit that an instruction reads. -/
def readCc0 (s : State) : Bool := s.cc0.getLsbD 0

end Sys2Proof.Machine
end

