-- ==== Sys2Proof/Machine/Alu.lean ====
section
/-! DEFINITION. Integer arithmetic, compares and logical instructions (spec/40_integer_alu.md R170 to R194). -/

namespace Sys2Proof.Machine

/-- A 32-bit addition that may trap (R171, R179): `Overflow` before the write, or the sum sign-extended. -/
def addWordTrapping (rd : Reg) (a b : Word32) (s : State) : Result :=
  if s.cfg.overflowTraps && addOverflows a b then .next (raise .overflow s)
  else .next (writeGpr rd (sext32 (a + b)) s)

/-- A 64-bit addition that may trap (R175, R181). -/
def addDoubleTrapping (rd : Reg) (a b : Word) (s : State) : Result :=
  if s.cfg.overflowTraps && addOverflows a b then .next (raise .overflow s)
  else .next (writeGpr rd (a + b) s)

/-- The 64-bit value of a comparison (R183). -/
def boolWord (b : Bool) : Word := if b then 1 else 0

/-- `ADD` (R171). -/
def execAdd (rd rs rt : Reg) (s : State) : Result :=
  addWordTrapping rd (lo32 (readGpr rs s)) (lo32 (readGpr rt s)) s

/-- `ADDU` (R172). -/
def execAddu (rd rs rt : Reg) (s : State) : Result :=
  .next (writeGpr rd (sext32 (lo32 (readGpr rs s) + lo32 (readGpr rt s))) s)

/-- `SUB` (R173). -/
def execSub (rd rs rt : Reg) (s : State) : Result :=
  let a := lo32 (readGpr rs s)
  let b := lo32 (readGpr rt s)
  if s.cfg.overflowTraps && subOverflows a b then .next (raise .overflow s)
  else .next (writeGpr rd (sext32 (a - b)) s)

/-- `SUBU` (R174). -/
def execSubu (rd rs rt : Reg) (s : State) : Result :=
  .next (writeGpr rd (sext32 (lo32 (readGpr rs s) - lo32 (readGpr rt s))) s)

/-- `DADD` (R175). -/
def execDadd (rd rs rt : Reg) (s : State) : Result :=
  addDoubleTrapping rd (readGpr rs s) (readGpr rt s) s

/-- `DADDU` (R176). -/
def execDaddu (rd rs rt : Reg) (s : State) : Result :=
  .next (writeGpr rd (readGpr rs s + readGpr rt s) s)

/-- `DSUB` (R177). -/
def execDsub (rd rs rt : Reg) (s : State) : Result :=
  let a := readGpr rs s
  let b := readGpr rt s
  if s.cfg.overflowTraps && subOverflows a b then .next (raise .overflow s)
  else .next (writeGpr rd (a - b) s)

/-- `DSUBU` (R178). -/
def execDsubu (rd rs rt : Reg) (s : State) : Result :=
  .next (writeGpr rd (readGpr rs s - readGpr rt s) s)

/-- `ADDI` (R179). -/
def execAddi (rt rs : Reg) (imm : Imm16) (s : State) : Result :=
  addWordTrapping rt (lo32 (readGpr rs s)) (lo32 (immSigned imm)) s

/-- `ADDIU` (R180). -/
def execAddiu (rt rs : Reg) (imm : Imm16) (s : State) : Result :=
  .next (writeGpr rt (sext32 (lo32 (readGpr rs s) + lo32 (immSigned imm))) s)

/-- `DADDI` (R181). -/
def execDaddi (rt rs : Reg) (imm : Imm16) (s : State) : Result :=
  addDoubleTrapping rt (readGpr rs s) (immSigned imm) s

/-- `DADDIU` (R182). -/
def execDaddiu (rt rs : Reg) (imm : Imm16) (s : State) : Result :=
  .next (writeGpr rt (readGpr rs s + immSigned imm) s)

/-- `SLT` (R183). -/
def execSlt (rd rs rt : Reg) (s : State) : Result :=
  .next (writeGpr rd (boolWord ((readGpr rs s).slt (readGpr rt s))) s)

/-- `SLTU` (R184). -/
def execSltu (rd rs rt : Reg) (s : State) : Result :=
  .next (writeGpr rd (boolWord ((readGpr rs s).ult (readGpr rt s))) s)

/-- `SLTI` (R185). -/
def execSlti (rt rs : Reg) (imm : Imm16) (s : State) : Result :=
  .next (writeGpr rt (boolWord ((readGpr rs s).slt (immSigned imm))) s)

/-- `SLTIU` (R186): the immediate is sign-extended, then compared as unsigned. -/
def execSltiu (rt rs : Reg) (imm : Imm16) (s : State) : Result :=
  .next (writeGpr rt (boolWord ((readGpr rs s).ult (immSigned imm))) s)

/-- `AND` (R187). -/
def execAnd (rd rs rt : Reg) (s : State) : Result :=
  .next (writeGpr rd (readGpr rs s &&& readGpr rt s) s)

/-- `OR` (R188). -/
def execOr (rd rs rt : Reg) (s : State) : Result :=
  .next (writeGpr rd (readGpr rs s ||| readGpr rt s) s)

/-- `XOR` (R189). -/
def execXor (rd rs rt : Reg) (s : State) : Result :=
  .next (writeGpr rd (readGpr rs s ^^^ readGpr rt s) s)

/-- `NOR` (R190). -/
def execNor (rd rs rt : Reg) (s : State) : Result :=
  .next (writeGpr rd (~~~(readGpr rs s ||| readGpr rt s)) s)

/-- `ANDI` (R191). -/
def execAndi (rt rs : Reg) (imm : Imm16) (s : State) : Result :=
  .next (writeGpr rt (readGpr rs s &&& immZero imm) s)

/-- `ORI` (R192). -/
def execOri (rt rs : Reg) (imm : Imm16) (s : State) : Result :=
  .next (writeGpr rt (readGpr rs s ||| immZero imm) s)

/-- `XORI` (R193). -/
def execXori (rt rs : Reg) (imm : Imm16) (s : State) : Result :=
  .next (writeGpr rt (readGpr rs s ^^^ immZero imm) s)

/-- `LUI` (R194). -/
def execLui (rt : Reg) (imm : Imm16) (s : State) : Result :=
  .next (writeGpr rt (immUpper imm) s)

end Sys2Proof.Machine
end

