-- ==== Sys2Proof/Machine/Branch.lean ====
section
/-! DEFINITION. Jumps and branches (spec/42_branch_jump.md R246 to R265). -/

namespace Sys2Proof.Machine

/-- A conditional branch: taken, or nothing (R242). -/
def branchIf (c : Bool) (target : Word) (s : State) : Result :=
  if c then .next (takeBranch target s) else .next s

/-- A likely branch: taken, or its delay slot nullified (R242). -/
def branchLikelyIf (c : Bool) (target : Word) (s : State) : Result :=
  if c then .next (takeBranch target s) else .next (nullifySlot s)

/-- `x[31] <- pc + 8` (R245). -/
def writeLink (s : State) : State := writeGpr 31 (linkAddress s) s

/-- `signed(x[r]) < 0`. -/
def gprNegative (r : Reg) (s : State) : Bool := (readGpr r s).slt 0

/-- `signed(x[r]) <= 0`. -/
def gprNotPositive (r : Reg) (s : State) : Bool := (readGpr r s).sle 0

/-- `J` (R246). -/
def execJ (target : BitVec 26) (s : State) : Result :=
  .next (takeBranch (jumpTargetOf target s) s)

/-- `JAL` (R247). -/
def execJal (target : BitVec 26) (s : State) : Result :=
  .next (takeBranch (jumpTargetOf target s) (writeLink s))

/-- `JR` (R248). -/
def execJr (rs : Reg) (s : State) : Result :=
  .next (takeBranch (readGpr rs s) s)

/-- `JALR` (R249): the target is read before the link is written (D35). -/
def execJalr (rd rs : Reg) (s : State) : Result :=
  .next (takeBranch (readGpr rs s) (writeGpr rd (linkAddress s) s))

/-- `BEQ` (R250). -/
def execBeq (rs rt : Reg) (offset : Imm16) (s : State) : Result :=
  branchIf (decide (readGpr rs s = readGpr rt s)) (branchTargetOf offset s) s

/-- `BEQL` (R254). -/
def execBeql (rs rt : Reg) (offset : Imm16) (s : State) : Result :=
  branchLikelyIf (decide (readGpr rs s = readGpr rt s)) (branchTargetOf offset s) s

/-- `BNE` (R251). -/
def execBne (rs rt : Reg) (offset : Imm16) (s : State) : Result :=
  branchIf (decide (readGpr rs s ≠ readGpr rt s)) (branchTargetOf offset s) s

/-- `BNEL` (R255). -/
def execBnel (rs rt : Reg) (offset : Imm16) (s : State) : Result :=
  branchLikelyIf (decide (readGpr rs s ≠ readGpr rt s)) (branchTargetOf offset s) s

/-- `BLEZ` (R252). -/
def execBlez (rs : Reg) (offset : Imm16) (s : State) : Result :=
  branchIf (gprNotPositive rs s) (branchTargetOf offset s) s

/-- `BLEZL` (R256). -/
def execBlezl (rs : Reg) (offset : Imm16) (s : State) : Result :=
  branchLikelyIf (gprNotPositive rs s) (branchTargetOf offset s) s

/-- `BGTZ` (R253). -/
def execBgtz (rs : Reg) (offset : Imm16) (s : State) : Result :=
  branchIf (!gprNotPositive rs s) (branchTargetOf offset s) s

/-- `BGTZL` (R257). -/
def execBgtzl (rs : Reg) (offset : Imm16) (s : State) : Result :=
  branchLikelyIf (!gprNotPositive rs s) (branchTargetOf offset s) s

/-- `BLTZ` (R258). -/
def execBltz (rs : Reg) (offset : Imm16) (s : State) : Result :=
  branchIf (gprNegative rs s) (branchTargetOf offset s) s

/-- `BLTZL` (R260). -/
def execBltzl (rs : Reg) (offset : Imm16) (s : State) : Result :=
  branchLikelyIf (gprNegative rs s) (branchTargetOf offset s) s

/-- `BGEZ` (R259). -/
def execBgez (rs : Reg) (offset : Imm16) (s : State) : Result :=
  branchIf (!gprNegative rs s) (branchTargetOf offset s) s

/-- `BGEZL` (R261). -/
def execBgezl (rs : Reg) (offset : Imm16) (s : State) : Result :=
  branchLikelyIf (!gprNegative rs s) (branchTargetOf offset s) s

/-- `BLTZAL` (R262): the condition is read before the link is written, and the link is written in either case. -/
def execBltzal (rs : Reg) (offset : Imm16) (s : State) : Result :=
  branchIf (gprNegative rs s) (branchTargetOf offset s) (writeLink s)

/-- `BGEZAL` (R263): the condition is read before the link is written, and the link is written in either case. -/
def execBgezal (rs : Reg) (offset : Imm16) (s : State) : Result :=
  branchIf (!gprNegative rs s) (branchTargetOf offset s) (writeLink s)

/-- `BLTZALL` (R264): the condition is read before the link is written, and the link is written in either case. -/
def execBltzall (rs : Reg) (offset : Imm16) (s : State) : Result :=
  branchLikelyIf (gprNegative rs s) (branchTargetOf offset s) (writeLink s)

/-- `BGEZALL` (R265): the condition is read before the link is written, and the link is written in either case. -/
def execBgezall (rs : Reg) (offset : Imm16) (s : State) : Result :=
  branchLikelyIf (!gprNegative rs s) (branchTargetOf offset s) (writeLink s)

end Sys2Proof.Machine
end

