-- ==== Sys2Proof/Machine/Cop0.lean ====
section
/-! DEFINITION. System-coprocessor instructions (spec/47_cop0.md). -/

namespace Sys2Proof.Machine

/-- `MFC0` (R452). -/
def execMfc0 (rt rd : Reg) (s : State) : Result :=
  requireCp0 s <|
    let r := cp0Read rd s
    .next (writeGpr rt (sext32 (lo32 r.1)) r.2)

/-- `DMFC0` (R453). -/
def execDmfc0 (rt rd : Reg) (s : State) : Result :=
  requireCp0 s <|
    let r := cp0Read rd s
    .next (writeGpr rt r.1 r.2)

/-- `MTC0` (R454). -/
def execMtc0 (rt rd : Reg) (s : State) : Result :=
  requireCp0 s (.next (cp0Write rd (sext32 (lo32 (readGpr rt s))) s))

/-- `DMTC0` (R455). -/
def execDmtc0 (rt rd : Reg) (s : State) : Result :=
  requireCp0 s (.next (cp0Write rd (readGpr rt s) s))

/-- `CTC0` (R456). -/
def execCtc0 (rt rd : Reg) (s : State) : Result :=
  requireCp0 s (.next { s with ccr0 := s.ccr0.set rd.toNat (lo32 (readGpr rt s)) (reg_lt rd) })

/-- `CFC0` (R457). -/
def execCfc0 (rt rd : Reg) (s : State) : Result :=
  requireCp0 s (.next (writeGpr rt (sext32 (s.ccr0[rd.toNat]'(reg_lt rd))) s))

/-- `TLBR` (R461). -/
def execTlbr (s : State) : Result :=
  requireCp0 s (.next (readEntry (indexField s) s))

/-- `TLBWI` (R462). -/
def execTlbwi (s : State) : Result :=
  requireCp0 s (.next (writeEntry (indexField s) s))

/-- `TLBWR` (R463). -/
def execTlbwr (s : State) : Result :=
  requireCp0 s <|
    let r := drawRandom s
    .next (writeEntry r.1 r.2)

/-- `TLBP` (R464). -/
def execTlbp (s : State) : Result :=
  requireCp0 s (.next { s with cp0 := { s.cp0 with index := probeResult s } })

/-- `BC0F` (R466). -/
def execBc0f (offset : Imm16) (s : State) : Result :=
  requireCp0 s (branchIf (!readCc0 s) (branchTargetOf offset s) s)

/-- `BC0T` (R467). -/
def execBc0t (offset : Imm16) (s : State) : Result :=
  requireCp0 s (branchIf (readCc0 s) (branchTargetOf offset s) s)

/-- `ERET` (R470). -/
def execEret (s : State) : Result :=
  requireCp0 s (.next (returnFromException s))

end Sys2Proof.Machine
end

