-- ==== Sys2Proof/Machine/FpNumerics.lean ====
section
/-! DEFINITION. `FpNumerics` (spec/46_fpu_arith.md R391, R392, R401): floating-point arithmetic on bit patterns. A
pattern is read as an exact value, the operation is computed exactly, and the result is rounded once. A pattern
stands here as the natural number its bits spell. -/

namespace Sys2Proof.Machine

/-- A binary interchange format: widths of the exponent and fraction fields (R390). -/
structure FpFormat where
  expBits : Nat
  fracBits : Nat
deriving DecidableEq, Repr

/-- IEEE 754 binary32. -/
def binary32 : FpFormat := ⟨8, 23⟩

/-- IEEE 754 binary64. -/
def binary64 : FpFormat := ⟨11, 52⟩

/-- The exact value of a pattern (R392): a finite value is `significand * 2 ^ exponent` with a sign. -/
inductive FpValue where
  | nan
  | infinity (negative : Bool)
  | finite (negative : Bool) (significand : Nat) (exponent : Int)
deriving DecidableEq, Repr

/-- The weight of the last fraction bit of a subnormal number, as a power of two. -/
def minExponent (f : FpFormat) : Int := 2 - 2 ^ (f.expBits - 1) - f.fracBits

/-- The largest exponent field: NaNs and infinities. -/
def topExponentField (f : FpFormat) : Nat := 2 ^ f.expBits - 1

/-- The pattern of an infinity or, one below it, of the largest finite magnitude, without sign. -/
def infinityMagnitude (f : FpFormat) : Nat := topExponentField f * 2 ^ f.fracBits

/-- The pattern with this sign and magnitude. -/
def withSign (f : FpFormat) (negative : Bool) (magnitude : Nat) : Nat :=
  (if negative then 2 ^ (f.expBits + f.fracBits) else 0) + magnitude

/-- Sign bit of a pattern. -/
def signOf (f : FpFormat) (bits : Nat) : Bool := decide (bits / 2 ^ (f.expBits + f.fracBits) % 2 = 1)

/-- A pattern without its sign bit. -/
def magnitudeOf (f : FpFormat) (bits : Nat) : Nat := bits % 2 ^ (f.expBits + f.fracBits)

/-- A NaN: exponent all ones, fraction not zero (R392). -/
def isNan (f : FpFormat) (bits : Nat) : Bool := decide (infinityMagnitude f < magnitudeOf f bits)

/-- The exact value of a pattern (R390, R392). -/
def unpack (f : FpFormat) (bits : Nat) : FpValue :=
  let magnitude := magnitudeOf f bits
  let expField := magnitude / 2 ^ f.fracBits
  let frac := magnitude % 2 ^ f.fracBits
  if expField = topExponentField f then
    if frac = 0 then .infinity (signOf f bits) else .nan
  else if expField = 0 then .finite (signOf f bits) frac (minExponent f)
  else .finite (signOf f bits) (2 ^ f.fracBits + frac) (minExponent f + (expField - 1))

/-! ### Rounding -/

/-- `num / den` rounded to a natural number: `negative` says which way "up" and "down" go (R391, R401). -/
def roundQuotient (rm : RoundingMode) (negative : Bool) (num den : Nat) : Nat :=
  let kept := num / den
  let rest := num % den
  let away := match rm with
    | .nearestEven => decide (den < 2 * rest ∨ (den = 2 * rest ∧ kept % 2 = 1))
    | .towardZero => false
    | .up => decide (rest ≠ 0) && !negative
    | .down => decide (rest ≠ 0) && negative
  if away then kept + 1 else kept

/-- `m * 2 ^ e` as a fraction. -/
def scaled (m : Nat) (e : Int) : Nat × Nat :=
  if 0 ≤ e then (m * 2 ^ e.toNat, 1) else (m, 2 ^ (-e).toNat)

/-- The exponent `k` with `2 ^ k ≤ num / den < 2 ^ (k + 1)`, for positive `num` and `den`. -/
def floorLog2 (num den : Nat) : Int :=
  let k : Int := (Nat.log2 num : Int) - (Nat.log2 den : Int)
  let t := scaled den k
  if t.1 ≤ num * t.2 then k else k - 1

/-- The pattern of an overflowing result (R391): infinity or the largest finite magnitude. -/
def overflowPattern (f : FpFormat) (rm : RoundingMode) (negative : Bool) : Nat :=
  let toInfinity := match rm with
    | .nearestEven => true
    | .towardZero => false
    | .up => !negative
    | .down => negative
  withSign f negative (if toInfinity then infinityMagnitude f else infinityMagnitude f - 1)

/-- The exact value `num / den * 2 ^ e`, with a sign, rounded once to the format (R391); zero keeps the sign. -/
def roundTo (f : FpFormat) (rm : RoundingMode) (negative : Bool) (num den : Nat) (e : Int) : Nat :=
  if num = 0 then withSign f negative 0
  else
    let quantum := max (floorLog2 num den + e - f.fracBits) (minExponent f)
    let t := scaled num (e - quantum)
    let kept := roundQuotient rm negative t.1 (den * t.2)
    let magnitude := (quantum - minExponent f).toNat * 2 ^ f.fracBits + kept
    if infinityMagnitude f ≤ magnitude then overflowPattern f rm negative else withSign f negative magnitude

/-! ### Arithmetic; `none` is "a NaN result" -/

/-- A signed zero. -/
def zeroPattern (f : FpFormat) (negative : Bool) : Nat := withSign f negative 0

/-- A signed infinity. -/
def infinityPattern (f : FpFormat) (negative : Bool) : Nat := withSign f negative (infinityMagnitude f)

/-- A sign and significand as an integer. -/
def signedSignificand (negative : Bool) (m : Nat) : Int := if negative then -(m : Int) else m

/-- Sum of two exact values. -/
def addValues (f : FpFormat) (rm : RoundingMode) (x y : FpValue) : Option Nat :=
  match x, y with
  | .nan, _ | _, .nan => none
  | .infinity n, .infinity n' => if n = n' then some (infinityPattern f n) else none
  | .infinity n, _ => some (infinityPattern f n)
  | _, .infinity n => some (infinityPattern f n)
  | .finite n m e, .finite n' m' e' =>
    let low := min e e'
    let sum := signedSignificand n m * 2 ^ (e - low).toNat + signedSignificand n' m' * 2 ^ (e' - low).toNat
    if sum = 0 then some (zeroPattern f (if n = n' then n else decide (rm = .down)))
    else some (roundTo f rm (decide (sum < 0)) sum.natAbs 1 low)

/-- The value with its sign inverted. -/
def negateValue : FpValue → FpValue
  | .nan => .nan
  | .infinity n => .infinity (!n)
  | .finite n m e => .finite (!n) m e

/-- Product of two exact values. -/
def mulValues (f : FpFormat) (rm : RoundingMode) (x y : FpValue) : Option Nat :=
  match x, y with
  | .nan, _ | _, .nan => none
  | .infinity n, .infinity n' => some (infinityPattern f (n ^^ n'))
  | .infinity n, .finite n' m _ | .finite n' m _, .infinity n =>
    if m = 0 then none else some (infinityPattern f (n ^^ n'))
  | .finite n m e, .finite n' m' e' => some (roundTo f rm (n ^^ n') (m * m') 1 (e + e'))

/-- Quotient of two exact values. -/
def divValues (f : FpFormat) (rm : RoundingMode) (x y : FpValue) : Option Nat :=
  match x, y with
  | .nan, _ | _, .nan => none
  | .infinity _, .infinity _ => none
  | .infinity n, .finite n' _ _ => some (infinityPattern f (n ^^ n'))
  | .finite n _ _, .infinity n' => some (zeroPattern f (n ^^ n'))
  | .finite n m e, .finite n' m' e' =>
    if m' = 0 then if m = 0 then none else some (infinityPattern f (n ^^ n'))
    else some (roundTo f rm (n ^^ n') m m' (e - e'))

/-- Integer square root, one result bit at a time from bit `k - 1` down. -/
def isqrtFrom : Nat → Nat → Nat → Nat
  | 0, _, root => root
  | k + 1, n, root =>
    isqrtFrom k n (if (root + 2 ^ k) * (root + 2 ^ k) ≤ n then root + 2 ^ k else root)

/-- Square root of a positive value `m * 2 ^ e`: the significand is widened until its integer root has over 60 bits,
and one more bit says whether the root is inexact, so that one rounding is enough. -/
def sqrtPositive (f : FpFormat) (rm : RoundingMode) (m : Nat) (e : Int) : Nat :=
  let shift := 120 + (e % 2).toNat
  let wide := m * 2 ^ shift
  let root := isqrtFrom 90 wide 0
  let sticky := if root * root = wide then 0 else 1
  roundTo f rm false (2 * root + sticky) 1 ((e - shift) / 2 - 1)

/-- Square root of an exact value. -/
def sqrtValue (f : FpFormat) (rm : RoundingMode) (x : FpValue) : Option Nat :=
  match x with
  | .nan => none
  | .infinity n => if n then none else some (infinityPattern f false)
  | .finite n m e =>
    if m = 0 then some (zeroPattern f n) else if n then none else some (sqrtPositive f rm m e)

/-- The pattern of `1.0`. -/
def onePattern (f : FpFormat) : Nat := (2 ^ (f.expBits - 1) - 1) * 2 ^ f.fracBits

/-- The members of `FpNumerics` at their IEEE defaults (R391). A function of one operand ignores `b`. -/
def ieeeFunction (f : FpFormat) (fn : FpFun) (rm : RoundingMode) (a b : Nat) : Option Nat :=
  match fn with
  | .add => addValues f rm (unpack f a) (unpack f b)
  | .sub => addValues f rm (unpack f a) (negateValue (unpack f b))
  | .mul => mulValues f rm (unpack f a) (unpack f b)
  | .div => divValues f rm (unpack f a) (unpack f b)
  | .sqrt => sqrtValue f rm (unpack f a)
  | .recip => divValues f rm (unpack f (onePattern f)) (unpack f a)
  | .rsqrt =>
    match sqrtValue f rm (unpack f a) with
    | none => none
    | some root => divValues f rm (unpack f (onePattern f)) (unpack f root)

/-- `FpNumerics` on binary32 in a configuration; `none` is a NaN result, to be drawn. -/
def fpFunction32 (cfg : Config) (fn : FpFun) (rm : RoundingMode) (a b : Word32) : Option Word32 :=
  match cfg.numerics with
  | .specDefault => (ieeeFunction binary32 fn rm a.toNat b.toNat).map (BitVec.ofNat 32)
  | .own => some (Config.ownFp32 fn rm a b)

/-- `FpNumerics` on binary64 in a configuration. -/
def fpFunction64 (cfg : Config) (fn : FpFun) (rm : RoundingMode) (a b : Word) : Option Word :=
  match cfg.numerics with
  | .specDefault => (ieeeFunction binary64 fn rm a.toNat b.toNat).map (BitVec.ofNat 64)
  | .own => some (Config.ownFp64 fn rm a b)

/-! ### Conversions (R401, R410 to R413) -/

/-- `ToInt` (R401) before its result is made a bit vector: `none` is "invalid". -/
def toIntExact (f : FpFormat) (rm : RoundingMode) (w : Nat) (bits : Nat) : Option Int :=
  match unpack f bits with
  | .nan | .infinity _ => none
  | .finite n m e =>
    let t := scaled m e
    let r := signedSignificand n (roundQuotient rm n t.1 t.2)
    if outOfRange w r then none else some r

/-- `ToInt(v, mode, 32)` (R401). -/
def toInt32 (cfg : Config) (f : FpFormat) (rm : RoundingMode) (bits : Nat) : Word32 :=
  match toIntExact f rm 32 bits with
  | some r => BitVec.ofInt 32 r
  | none => cfg.invalidInt32

/-- `ToInt(v, mode, 64)` (R401). -/
def toInt64 (cfg : Config) (f : FpFormat) (rm : RoundingMode) (bits : Nat) : Word :=
  match toIntExact f rm 64 bits with
  | some r => BitVec.ofInt 64 r
  | none => cfg.invalidInt64

/-- A signed integer as a floating-point pattern (R410, R411). -/
def ofIntExact (f : FpFormat) (rm : RoundingMode) (i : Int) : Nat :=
  roundTo f rm (decide (i < 0)) i.natAbs 1 0

/-- A pattern of one format as a pattern of another (R410, R411); `none` is a NaN result. -/
def convertFormat (src dst : FpFormat) (rm : RoundingMode) (bits : Nat) : Option Nat :=
  match unpack src bits with
  | .nan => none
  | .infinity n => some (infinityPattern dst n)
  | .finite n m e => some (roundTo dst rm n m 1 e)

/-! ### Comparison (R425) -/

/-- The order key of a pattern that is no NaN: both zeros have key 0. -/
def orderKey (f : FpFormat) (bits : Nat) : Int := signedSignificand (signOf f bits) (magnitudeOf f bits)

/-- The outcome of comparing two patterns (R425). -/
def compareValues (f : FpFormat) (a b : Nat) : CompareOutcome :=
  if isNan f a || isNan f b then ⟨false, false, true⟩
  else ⟨decide (orderKey f a < orderKey f b), decide (orderKey f a = orderKey f b), false⟩

/-! ### NaN results (R391, U3) -/

/-- The NaN of binary32 that a free 64-bit value stands for: its sign and fraction, a zero fraction made 1. -/
def nanPattern32 (w : Word) : Word32 :=
  let frac := w.extractLsb' 0 23
  BitVec.ofBool (w.getLsbD 31) ++ BitVec.allOnes 8 ++ (if frac = 0 then 1#23 else frac)

/-- The NaN of binary64 that a free 64-bit value stands for. -/
def nanPattern64 (w : Word) : Word :=
  let frac := w.extractLsb' 0 52
  BitVec.ofBool (w.getLsbD 63) ++ BitVec.allOnes 11 ++ (if frac = 0 then 1#52 else frac)

end Sys2Proof.Machine
end

