-- ==== Sys2Proof/Machine/FpuArith.lean ====
section
/-! DEFINITION. Floating-point arithmetic, conversion, conditional moves and compares
(spec/46_fpu_arith.md). -/

namespace Sys2Proof.Machine

/-- A binary32 result: its pattern, or a drawn NaN (R391, U3). -/
def writeResult32 (fd : Reg) (r : Option Word32) (s : State) : State :=
  match r with
  | some v => writeFpr32 fd v s
  | none => writeFpr32 fd (nanPattern32 (Config.freeWord s.draws)) { s with draws := s.draws + 1 }

/-- A binary64 result: its pattern, or a drawn NaN (R391, U3). -/
def writeResult64 (fd : Reg) (r : Option Word) (s : State) : State :=
  match r with
  | some v => writeFpr64 fd v s
  | none => writeFpr64 fd (nanPattern64 (Config.freeWord s.draws)) { s with draws := s.draws + 1 }

/-- A binary32 operation of `FpNumerics` in the mode `FCSR.RM` (R393 to R397, R418, R419). -/
def arith32 (fn : FpFun) (fd : Reg) (a b : Word32) (s : State) : Result :=
  requireCp1 s (.next (writeResult32 fd (fpFunction32 s.cfg fn (roundingMode s) a b) s))

/-- A binary64 operation of `FpNumerics` in the mode `FCSR.RM`. -/
def arith64 (fn : FpFun) (fd : Reg) (a b : Word) (s : State) : Result :=
  requireCp1 s (.next (writeResult64 fd (fpFunction64 s.cfg fn (roundingMode s) a b) s))

/-- A 32-bit pattern written as it is. -/
def put32 (fd : Reg) (v : Word32) (s : State) : Result := requireCp1 s (.next (writeFpr32 fd v s))

/-- A 64-bit pattern written as it is. -/
def put64 (fd : Reg) (v : Word) (s : State) : Result := requireCp1 s (.next (writeFpr64 fd v s))

/-- A conditional move in the 32-bit view (R414 to R417). -/
def moveIf32 (c : Bool) (fd fs : Reg) (s : State) : Result :=
  requireCp1 s (if c then .next (writeFpr32 fd (readFpr32 fs s) s) else .next s)

/-- A conditional move in the 64-bit view. -/
def moveIf64 (c : Bool) (fd fs : Reg) (s : State) : Result :=
  requireCp1 s (if c then .next (writeFpr64 fd (readFpr64 fs s) s) else .next s)

/-- `C.cond.S` (R425). -/
def compare32 (cond : BitVec 4) (cc : Nat) (fs ft : Reg) (s : State) : Result :=
  requireCp1 s (.next (writeFcc cc
    (conditionBit cond (compareValues binary32 (readFpr32 fs s).toNat (readFpr32 ft s).toNat)) s))

/-- `C.cond.D` (R425). -/
def compare64 (cond : BitVec 4) (cc : Nat) (fs ft : Reg) (s : State) : Result :=
  requireCp1 s (.next (writeFcc cc
    (conditionBit cond (compareValues binary64 (readFpr64 fs s).toNat (readFpr64 ft s).toNat)) s))

/-- `ADD.S` (R393). -/
def execAddS (fd fs ft : Reg) (s : State) : Result :=
  arith32 .add fd (readFpr32 fs s) (readFpr32 ft s) s

/-- `SUB.S` (R394). -/
def execSubS (fd fs ft : Reg) (s : State) : Result :=
  arith32 .sub fd (readFpr32 fs s) (readFpr32 ft s) s

/-- `MUL.S` (R395). -/
def execMulS (fd fs ft : Reg) (s : State) : Result :=
  arith32 .mul fd (readFpr32 fs s) (readFpr32 ft s) s

/-- `DIV.S` (R396). -/
def execDivS (fd fs ft : Reg) (s : State) : Result :=
  arith32 .div fd (readFpr32 fs s) (readFpr32 ft s) s

/-- `SQRT.S` (R397). -/
def execSqrtS (fd fs : Reg) (s : State) : Result :=
  arith32 .sqrt fd (readFpr32 fs s) 0 s

/-- `RECIP.S` (R418). -/
def execRecipS (fd fs : Reg) (s : State) : Result :=
  arith32 .recip fd (readFpr32 fs s) 0 s

/-- `RSQRT.S` (R419). -/
def execRsqrtS (fd fs : Reg) (s : State) : Result :=
  arith32 .rsqrt fd (readFpr32 fs s) 0 s

/-- `ABS.S` (R398). -/
def execAbsS (fd fs : Reg) (s : State) : Result :=
  put32 fd (readFpr32 fs s &&& 0x7FFFFFFF#32) s

/-- `MOV.S` (R399). -/
def execMovS (fd fs : Reg) (s : State) : Result :=
  put32 fd (readFpr32 fs s) s

/-- `NEG.S` (R400). -/
def execNegS (fd fs : Reg) (s : State) : Result :=
  put32 fd (readFpr32 fs s ^^^ 0x80000000#32) s

/-- `ROUND.L.S` (R402). -/
def execRoundLS (fd fs : Reg) (s : State) : Result :=
  put64 fd (toInt64 s.cfg binary32 .nearestEven (readFpr32 fs s).toNat) s

/-- `TRUNC.L.S` (R403). -/
def execTruncLS (fd fs : Reg) (s : State) : Result :=
  put64 fd (toInt64 s.cfg binary32 .towardZero (readFpr32 fs s).toNat) s

/-- `CEIL.L.S` (R404). -/
def execCeilLS (fd fs : Reg) (s : State) : Result :=
  put64 fd (toInt64 s.cfg binary32 .up (readFpr32 fs s).toNat) s

/-- `FLOOR.L.S` (R405). -/
def execFloorLS (fd fs : Reg) (s : State) : Result :=
  put64 fd (toInt64 s.cfg binary32 .down (readFpr32 fs s).toNat) s

/-- `ROUND.W.S` (R406). -/
def execRoundWS (fd fs : Reg) (s : State) : Result :=
  put32 fd (toInt32 s.cfg binary32 .nearestEven (readFpr32 fs s).toNat) s

/-- `TRUNC.W.S` (R407). -/
def execTruncWS (fd fs : Reg) (s : State) : Result :=
  put32 fd (toInt32 s.cfg binary32 .towardZero (readFpr32 fs s).toNat) s

/-- `CEIL.W.S` (R408). -/
def execCeilWS (fd fs : Reg) (s : State) : Result :=
  put32 fd (toInt32 s.cfg binary32 .up (readFpr32 fs s).toNat) s

/-- `FLOOR.W.S` (R409). -/
def execFloorWS (fd fs : Reg) (s : State) : Result :=
  put32 fd (toInt32 s.cfg binary32 .down (readFpr32 fs s).toNat) s

/-- `CVT.W.S` (R412). -/
def execCvtWS (fd fs : Reg) (s : State) : Result :=
  put32 fd (toInt32 s.cfg binary32 (roundingMode s) (readFpr32 fs s).toNat) s

/-- `CVT.L.S` (R413). -/
def execCvtLS (fd fs : Reg) (s : State) : Result :=
  put64 fd (toInt64 s.cfg binary32 (roundingMode s) (readFpr32 fs s).toNat) s

/-- `MOVF.S` (R414). -/
def execMovfS (fd fs : Reg) (cc : Nat) (s : State) : Result :=
  moveIf32 (!readFcc cc s) fd fs s

/-- `MOVT.S` (R415). -/
def execMovtS (fd fs : Reg) (cc : Nat) (s : State) : Result :=
  moveIf32 (readFcc cc s) fd fs s

/-- `MOVZ.S` (R416). -/
def execMovzS (fd fs rt : Reg) (s : State) : Result :=
  moveIf32 (decide (readGpr rt s = 0)) fd fs s

/-- `MOVN.S` (R417). -/
def execMovnS (fd fs rt : Reg) (s : State) : Result :=
  moveIf32 (decide (readGpr rt s ≠ 0)) fd fs s

/-- `ADD.D` (R393). -/
def execAddD (fd fs ft : Reg) (s : State) : Result :=
  arith64 .add fd (readFpr64 fs s) (readFpr64 ft s) s

/-- `SUB.D` (R394). -/
def execSubD (fd fs ft : Reg) (s : State) : Result :=
  arith64 .sub fd (readFpr64 fs s) (readFpr64 ft s) s

/-- `MUL.D` (R395). -/
def execMulD (fd fs ft : Reg) (s : State) : Result :=
  arith64 .mul fd (readFpr64 fs s) (readFpr64 ft s) s

/-- `DIV.D` (R396). -/
def execDivD (fd fs ft : Reg) (s : State) : Result :=
  arith64 .div fd (readFpr64 fs s) (readFpr64 ft s) s

/-- `SQRT.D` (R397). -/
def execSqrtD (fd fs : Reg) (s : State) : Result :=
  arith64 .sqrt fd (readFpr64 fs s) 0 s

/-- `RECIP.D` (R418). -/
def execRecipD (fd fs : Reg) (s : State) : Result :=
  arith64 .recip fd (readFpr64 fs s) 0 s

/-- `RSQRT.D` (R419). -/
def execRsqrtD (fd fs : Reg) (s : State) : Result :=
  arith64 .rsqrt fd (readFpr64 fs s) 0 s

/-- `ABS.D` (R398). -/
def execAbsD (fd fs : Reg) (s : State) : Result :=
  put64 fd (readFpr64 fs s &&& 0x7FFFFFFFFFFFFFFF#64) s

/-- `MOV.D` (R399). -/
def execMovD (fd fs : Reg) (s : State) : Result :=
  put64 fd (readFpr64 fs s) s

/-- `NEG.D` (R400). -/
def execNegD (fd fs : Reg) (s : State) : Result :=
  put64 fd (readFpr64 fs s ^^^ 0x8000000000000000#64) s

/-- `ROUND.L.D` (R402). -/
def execRoundLD (fd fs : Reg) (s : State) : Result :=
  put64 fd (toInt64 s.cfg binary64 .nearestEven (readFpr64 fs s).toNat) s

/-- `TRUNC.L.D` (R403). -/
def execTruncLD (fd fs : Reg) (s : State) : Result :=
  put64 fd (toInt64 s.cfg binary64 .towardZero (readFpr64 fs s).toNat) s

/-- `CEIL.L.D` (R404). -/
def execCeilLD (fd fs : Reg) (s : State) : Result :=
  put64 fd (toInt64 s.cfg binary64 .up (readFpr64 fs s).toNat) s

/-- `FLOOR.L.D` (R405). -/
def execFloorLD (fd fs : Reg) (s : State) : Result :=
  put64 fd (toInt64 s.cfg binary64 .down (readFpr64 fs s).toNat) s

/-- `ROUND.W.D` (R406). -/
def execRoundWD (fd fs : Reg) (s : State) : Result :=
  put32 fd (toInt32 s.cfg binary64 .nearestEven (readFpr64 fs s).toNat) s

/-- `TRUNC.W.D` (R407). -/
def execTruncWD (fd fs : Reg) (s : State) : Result :=
  put32 fd (toInt32 s.cfg binary64 .towardZero (readFpr64 fs s).toNat) s

/-- `CEIL.W.D` (R408). -/
def execCeilWD (fd fs : Reg) (s : State) : Result :=
  put32 fd (toInt32 s.cfg binary64 .up (readFpr64 fs s).toNat) s

/-- `FLOOR.W.D` (R409). -/
def execFloorWD (fd fs : Reg) (s : State) : Result :=
  put32 fd (toInt32 s.cfg binary64 .down (readFpr64 fs s).toNat) s

/-- `CVT.W.D` (R412). -/
def execCvtWD (fd fs : Reg) (s : State) : Result :=
  put32 fd (toInt32 s.cfg binary64 (roundingMode s) (readFpr64 fs s).toNat) s

/-- `CVT.L.D` (R413). -/
def execCvtLD (fd fs : Reg) (s : State) : Result :=
  put64 fd (toInt64 s.cfg binary64 (roundingMode s) (readFpr64 fs s).toNat) s

/-- `MOVF.D` (R414). -/
def execMovfD (fd fs : Reg) (cc : Nat) (s : State) : Result :=
  moveIf64 (!readFcc cc s) fd fs s

/-- `MOVT.D` (R415). -/
def execMovtD (fd fs : Reg) (cc : Nat) (s : State) : Result :=
  moveIf64 (readFcc cc s) fd fs s

/-- `MOVZ.D` (R416). -/
def execMovzD (fd fs rt : Reg) (s : State) : Result :=
  moveIf64 (decide (readGpr rt s = 0)) fd fs s

/-- `MOVN.D` (R417). -/
def execMovnD (fd fs rt : Reg) (s : State) : Result :=
  moveIf64 (decide (readGpr rt s ≠ 0)) fd fs s

/-- `CVT.S.D` (R410). -/
def execCvtSD (fd fs : Reg) (s : State) : Result :=
  requireCp1 s (.next (writeResult32 fd
    ((convertFormat binary64 binary32 (roundingMode s) (readFpr64 fs s).toNat).map (BitVec.ofNat 32)) s))

/-- `CVT.S.W` (R410). -/
def execCvtSW (fd fs : Reg) (s : State) : Result :=
  put32 fd (BitVec.ofNat 32 (ofIntExact binary32 (roundingMode s) (readFpr32 fs s).toInt)) s

/-- `CVT.S.L` (R410). -/
def execCvtSL (fd fs : Reg) (s : State) : Result :=
  put32 fd (BitVec.ofNat 32 (ofIntExact binary32 (roundingMode s) (readFpr64 fs s).toInt)) s

/-- `CVT.D.S` (R411). -/
def execCvtDS (fd fs : Reg) (s : State) : Result :=
  requireCp1 s (.next (writeResult64 fd
    ((convertFormat binary32 binary64 (roundingMode s) (readFpr32 fs s).toNat).map (BitVec.ofNat 64)) s))

/-- `CVT.D.W` (R411). -/
def execCvtDW (fd fs : Reg) (s : State) : Result :=
  put64 fd (BitVec.ofNat 64 (ofIntExact binary64 (roundingMode s) (readFpr32 fs s).toInt)) s

/-- `CVT.D.L` (R411). -/
def execCvtDL (fd fs : Reg) (s : State) : Result :=
  put64 fd (BitVec.ofNat 64 (ofIntExact binary64 (roundingMode s) (readFpr64 fs s).toInt)) s

/-- `C.F.S` (R425, R426). -/
def execCFS (cc : Nat) (fs ft : Reg) (s : State) : Result :=
  compare32 0 cc fs ft s

/-- `C.UN.S` (R425, R426). -/
def execCUnS (cc : Nat) (fs ft : Reg) (s : State) : Result :=
  compare32 1 cc fs ft s

/-- `C.EQ.S` (R425, R426). -/
def execCEqS (cc : Nat) (fs ft : Reg) (s : State) : Result :=
  compare32 2 cc fs ft s

/-- `C.UEQ.S` (R425, R426). -/
def execCUeqS (cc : Nat) (fs ft : Reg) (s : State) : Result :=
  compare32 3 cc fs ft s

/-- `C.OLT.S` (R425, R426). -/
def execCOltS (cc : Nat) (fs ft : Reg) (s : State) : Result :=
  compare32 4 cc fs ft s

/-- `C.ULT.S` (R425, R426). -/
def execCUltS (cc : Nat) (fs ft : Reg) (s : State) : Result :=
  compare32 5 cc fs ft s

/-- `C.OLE.S` (R425, R426). -/
def execCOleS (cc : Nat) (fs ft : Reg) (s : State) : Result :=
  compare32 6 cc fs ft s

/-- `C.ULE.S` (R425, R426). -/
def execCUleS (cc : Nat) (fs ft : Reg) (s : State) : Result :=
  compare32 7 cc fs ft s

/-- `C.SF.S` (R425, R426). -/
def execCSfS (cc : Nat) (fs ft : Reg) (s : State) : Result :=
  compare32 8 cc fs ft s

/-- `C.NGLE.S` (R425, R426). -/
def execCNgleS (cc : Nat) (fs ft : Reg) (s : State) : Result :=
  compare32 9 cc fs ft s

/-- `C.SEQ.S` (R425, R426). -/
def execCSeqS (cc : Nat) (fs ft : Reg) (s : State) : Result :=
  compare32 10 cc fs ft s

/-- `C.NGL.S` (R425, R426). -/
def execCNglS (cc : Nat) (fs ft : Reg) (s : State) : Result :=
  compare32 11 cc fs ft s

/-- `C.LT.S` (R425, R426). -/
def execCLtS (cc : Nat) (fs ft : Reg) (s : State) : Result :=
  compare32 12 cc fs ft s

/-- `C.NGE.S` (R425, R426). -/
def execCNgeS (cc : Nat) (fs ft : Reg) (s : State) : Result :=
  compare32 13 cc fs ft s

/-- `C.LE.S` (R425, R426). -/
def execCLeS (cc : Nat) (fs ft : Reg) (s : State) : Result :=
  compare32 14 cc fs ft s

/-- `C.NGT.S` (R425, R426). -/
def execCNgtS (cc : Nat) (fs ft : Reg) (s : State) : Result :=
  compare32 15 cc fs ft s

/-- `C.F.D` (R425, R426). -/
def execCFD (cc : Nat) (fs ft : Reg) (s : State) : Result :=
  compare64 0 cc fs ft s

/-- `C.UN.D` (R425, R426). -/
def execCUnD (cc : Nat) (fs ft : Reg) (s : State) : Result :=
  compare64 1 cc fs ft s

/-- `C.EQ.D` (R425, R426). -/
def execCEqD (cc : Nat) (fs ft : Reg) (s : State) : Result :=
  compare64 2 cc fs ft s

/-- `C.UEQ.D` (R425, R426). -/
def execCUeqD (cc : Nat) (fs ft : Reg) (s : State) : Result :=
  compare64 3 cc fs ft s

/-- `C.OLT.D` (R425, R426). -/
def execCOltD (cc : Nat) (fs ft : Reg) (s : State) : Result :=
  compare64 4 cc fs ft s

/-- `C.ULT.D` (R425, R426). -/
def execCUltD (cc : Nat) (fs ft : Reg) (s : State) : Result :=
  compare64 5 cc fs ft s

/-- `C.OLE.D` (R425, R426). -/
def execCOleD (cc : Nat) (fs ft : Reg) (s : State) : Result :=
  compare64 6 cc fs ft s

/-- `C.ULE.D` (R425, R426). -/
def execCUleD (cc : Nat) (fs ft : Reg) (s : State) : Result :=
  compare64 7 cc fs ft s

/-- `C.SF.D` (R425, R426). -/
def execCSfD (cc : Nat) (fs ft : Reg) (s : State) : Result :=
  compare64 8 cc fs ft s

/-- `C.NGLE.D` (R425, R426). -/
def execCNgleD (cc : Nat) (fs ft : Reg) (s : State) : Result :=
  compare64 9 cc fs ft s

/-- `C.SEQ.D` (R425, R426). -/
def execCSeqD (cc : Nat) (fs ft : Reg) (s : State) : Result :=
  compare64 10 cc fs ft s

/-- `C.NGL.D` (R425, R426). -/
def execCNglD (cc : Nat) (fs ft : Reg) (s : State) : Result :=
  compare64 11 cc fs ft s

/-- `C.LT.D` (R425, R426). -/
def execCLtD (cc : Nat) (fs ft : Reg) (s : State) : Result :=
  compare64 12 cc fs ft s

/-- `C.NGE.D` (R425, R426). -/
def execCNgeD (cc : Nat) (fs ft : Reg) (s : State) : Result :=
  compare64 13 cc fs ft s

/-- `C.LE.D` (R425, R426). -/
def execCLeD (cc : Nat) (fs ft : Reg) (s : State) : Result :=
  compare64 14 cc fs ft s

/-- `C.NGT.D` (R425, R426). -/
def execCNgtD (cc : Nat) (fs ft : Reg) (s : State) : Result :=
  compare64 15 cc fs ft s

end Sys2Proof.Machine
end

