-- ==== Sys2Proof/Machine/LoadStore.lean ====
section
/-! DEFINITION. Loads, stores, partial-word accesses and the atomic pairs (spec/43_load_store.md). -/

namespace Sys2Proof.Machine

/-- A load of `n` bytes into a general register, extended by `extend` (R280). -/
def loadGpr (n : Nat) (extend : Word → Word) (rt : Reg) (va : Word) (s : State) : Result :=
  withAccess (memRead s va n) s fun w => .next (writeGpr rt (extend w) s)

/-- A store of the low `n` bytes of a value (R280). -/
def storeBytes (n : Nat) (v va : Word) (s : State) : Result :=
  withAccess (memWrite s va n v) s fun m => .next { s with mem := m }

/-- A store of the byte lanes of `mask` (R292). -/
def storeLanes (n : Nat) (v mask va : Word) (s : State) : Result :=
  withAccess (memWriteMasked s va n v mask) s fun m => .next { s with mem := m }

/-- The outcome of a store-conditional (R304): the store and 1, or 0. -/
def finishConditional (rt : Reg) (r : Option Memory) (s : State) : Result :=
  match r with
  | some m => .next (writeGpr rt 1 { s with mem := m })
  | none => .next (writeGpr rt 0 s)

/-- `LB` (R281). -/
def execLb (rt : Reg) (offset : Imm16) (base : Reg) (s : State) : Result :=
  loadGpr 1 (sext 8) rt (effectiveAddress base offset s) s

/-- `LBU` (R282). -/
def execLbu (rt : Reg) (offset : Imm16) (base : Reg) (s : State) : Result :=
  loadGpr 1 (zext 8) rt (effectiveAddress base offset s) s

/-- `LH` (R283). -/
def execLh (rt : Reg) (offset : Imm16) (base : Reg) (s : State) : Result :=
  loadGpr 2 (sext 16) rt (effectiveAddress base offset s) s

/-- `LHU` (R284). -/
def execLhu (rt : Reg) (offset : Imm16) (base : Reg) (s : State) : Result :=
  loadGpr 2 (zext 16) rt (effectiveAddress base offset s) s

/-- `LW` (R285). -/
def execLw (rt : Reg) (offset : Imm16) (base : Reg) (s : State) : Result :=
  loadGpr 4 (sext 32) rt (effectiveAddress base offset s) s

/-- `LWU` (R286). -/
def execLwu (rt : Reg) (offset : Imm16) (base : Reg) (s : State) : Result :=
  loadGpr 4 (zext 32) rt (effectiveAddress base offset s) s

/-- `LD` (R287). -/
def execLd (rt : Reg) (offset : Imm16) (base : Reg) (s : State) : Result :=
  loadGpr 8 id rt (effectiveAddress base offset s) s

/-- `SB` (R288). -/
def execSb (rt : Reg) (offset : Imm16) (base : Reg) (s : State) : Result :=
  storeBytes 1 (readGpr rt s) (effectiveAddress base offset s) s

/-- `SH` (R289). -/
def execSh (rt : Reg) (offset : Imm16) (base : Reg) (s : State) : Result :=
  storeBytes 2 (readGpr rt s) (effectiveAddress base offset s) s

/-- `SW` (R290). -/
def execSw (rt : Reg) (offset : Imm16) (base : Reg) (s : State) : Result :=
  storeBytes 4 (readGpr rt s) (effectiveAddress base offset s) s

/-- `SD` (R291). -/
def execSd (rt : Reg) (offset : Imm16) (base : Reg) (s : State) : Result :=
  storeBytes 8 (readGpr rt s) (effectiveAddress base offset s) s

/-- `LWL` (R294). -/
def execLwl (rt : Reg) (offset : Imm16) (base : Reg) (s : State) : Result :=
  let va := effectiveAddress base offset s
  let merge := fun w : Word => sext32 (mergeLeft (lo32 (readGpr rt s)) (lo32 w) (leftShift s va 3))
  loadGpr 4 merge rt (wordBase va) s

/-- `LWR` (R295). -/
def execLwr (rt : Reg) (offset : Imm16) (base : Reg) (s : State) : Result :=
  let va := effectiveAddress base offset s
  let merge := fun w : Word => sext32 (mergeRight (lo32 (readGpr rt s)) (lo32 w) (rightShift s va 3))
  loadGpr 4 merge rt (wordBase va) s

/-- `SWL` (R296). -/
def execSwl (rt : Reg) (offset : Imm16) (base : Reg) (s : State) : Result :=
  let va := effectiveAddress base offset s
  let shift := leftShift s va 3
  storeLanes 4 (zext32 (lo32 (readGpr rt s) >>> shift)) (zext32 (BitVec.allOnes 32 >>> shift)) (wordBase va) s

/-- `SWR` (R297). -/
def execSwr (rt : Reg) (offset : Imm16) (base : Reg) (s : State) : Result :=
  let va := effectiveAddress base offset s
  let shift := rightShift s va 3
  storeLanes 4 (zext32 (lo32 (readGpr rt s) <<< shift)) (zext32 (BitVec.allOnes 32 <<< shift)) (wordBase va) s

/-- `LDL` (R298). -/
def execLdl (rt : Reg) (offset : Imm16) (base : Reg) (s : State) : Result :=
  let va := effectiveAddress base offset s
  loadGpr 8 (fun d => mergeLeft (readGpr rt s) d (leftShift s va 7)) rt (doubleBase va) s

/-- `LDR` (R299). -/
def execLdr (rt : Reg) (offset : Imm16) (base : Reg) (s : State) : Result :=
  let va := effectiveAddress base offset s
  loadGpr 8 (fun d => mergeRight (readGpr rt s) d (rightShift s va 7)) rt (doubleBase va) s

/-- `SDL` (R300). -/
def execSdl (rt : Reg) (offset : Imm16) (base : Reg) (s : State) : Result :=
  let va := effectiveAddress base offset s
  let shift := leftShift s va 7
  storeLanes 8 (readGpr rt s >>> shift) (BitVec.allOnes 64 >>> shift) (doubleBase va) s

/-- `SDR` (R301). -/
def execSdr (rt : Reg) (offset : Imm16) (base : Reg) (s : State) : Result :=
  let va := effectiveAddress base offset s
  let shift := rightShift s va 7
  storeLanes 8 (readGpr rt s <<< shift) (BitVec.allOnes 64 <<< shift) (doubleBase va) s

/-- `LL` (R302). -/
def execLl (rt : Reg) (offset : Imm16) (base : Reg) (s : State) : Result :=
  withAccess (memRead s (effectiveAddress base offset s) 4) s fun w =>
    .next (writeGpr rt (sext32 (lo32 w)) { s with llValue := lo32 w })

/-- `LLD` (R303). -/
def execLld (rt : Reg) (offset : Imm16) (base : Reg) (s : State) : Result :=
  withAccess (memRead s (effectiveAddress base offset s) 8) s fun d =>
    .next (writeGpr rt d { s with lldValue := d })

/-- `SC` (R304). -/
def execSc (rt : Reg) (offset : Imm16) (base : Reg) (s : State) : Result :=
  withAccess (memConditionalWrite s (effectiveAddress base offset s) 4 (zext32 s.llValue) (readGpr rt s)) s
    fun r => finishConditional rt r s

/-- `SCD` (R305). -/
def execScd (rt : Reg) (offset : Imm16) (base : Reg) (s : State) : Result :=
  withAccess (memConditionalWrite s (effectiveAddress base offset s) 8 s.lldValue (readGpr rt s)) s
    fun r => finishConditional rt r s

end Sys2Proof.Machine
end

