-- ==== Sys2Proof/Machine/FpuMove.lean ====
section
/-! DEFINITION. Floating-point moves, control registers, branches, loads and stores
(spec/45_fpu_move_branch.md). -/

namespace Sys2Proof.Machine

/-- A floating-point control register as `CFC1` reads it (R366). -/
def readFpControl (n : Reg) (s : State) : Word32 :=
  if n = 31 then fcsrRead s else s.ccr1[n.toNat]'(reg_lt n)

/-- A floating-point control register as `CTC1` writes it (R367): register 0 is read-only. -/
def writeFpControl (n : Reg) (v : Word32) (s : State) : State :=
  if n = 0 then s
  else if n = 31 then fcsrWrite v s
  else { s with ccr1 := s.ccr1.set n.toNat v (reg_lt n) }

/-- `MFC1` (R362). -/
def execMfc1 (rt fs : Reg) (s : State) : Result :=
  requireCp1 s (.next (writeGpr rt (sext32 (readFpr32 fs s)) s))

/-- `DMFC1` (R363). -/
def execDmfc1 (rt fs : Reg) (s : State) : Result :=
  requireCp1 s (.next (writeGpr rt (readFpr64 fs s) s))

/-- `MTC1` (R364). -/
def execMtc1 (rt fs : Reg) (s : State) : Result :=
  requireCp1 s (.next (writeFpr32 fs (lo32 (readGpr rt s)) s))

/-- `DMTC1` (R365). -/
def execDmtc1 (rt fs : Reg) (s : State) : Result :=
  requireCp1 s (.next (writeFpr64 fs (readGpr rt s) s))

/-- `CFC1` (R366). -/
def execCfc1 (rt fs : Reg) (s : State) : Result :=
  requireCp1 s (.next (writeGpr rt (sext32 (readFpControl fs s)) s))

/-- `CTC1` (R367). -/
def execCtc1 (rt fs : Reg) (s : State) : Result :=
  requireCp1 s (.next (writeFpControl fs (lo32 (readGpr rt s)) s))

/-- `BC1F` (R368). -/
def execBc1f (cc : Nat) (offset : Imm16) (s : State) : Result :=
  requireCp1 s (branchIf (!readFcc cc s) (branchTargetOf offset s) s)

/-- `BC1T` (R369). -/
def execBc1t (cc : Nat) (offset : Imm16) (s : State) : Result :=
  requireCp1 s (branchIf (readFcc cc s) (branchTargetOf offset s) s)

/-- `BC1FL` (R370). -/
def execBc1fl (cc : Nat) (offset : Imm16) (s : State) : Result :=
  requireCp1 s (branchLikelyIf (!readFcc cc s) (branchTargetOf offset s) s)

/-- `BC1TL` (R371). -/
def execBc1tl (cc : Nat) (offset : Imm16) (s : State) : Result :=
  requireCp1 s (branchLikelyIf (readFcc cc s) (branchTargetOf offset s) s)

/-- `LWC1` (R372). -/
def execLwc1 (ft : Reg) (offset : Imm16) (base : Reg) (s : State) : Result :=
  requireCp1 s <|
    withAccess (memRead s (effectiveAddress base offset s) 4) s fun w => .next (writeFpr32 ft (lo32 w) s)

/-- `LDC1` (R373). -/
def execLdc1 (ft : Reg) (offset : Imm16) (base : Reg) (s : State) : Result :=
  requireCp1 s <|
    withAccess (memRead s (effectiveAddress base offset s) 8) s fun d => .next (writeFpr64 ft d s)

/-- `SWC1` (R374). -/
def execSwc1 (ft : Reg) (offset : Imm16) (base : Reg) (s : State) : Result :=
  requireCp1 s (storeBytes 4 (zext32 (readFpr32 ft s)) (effectiveAddress base offset s) s)

/-- `SDC1` (R375). -/
def execSdc1 (ft : Reg) (offset : Imm16) (base : Reg) (s : State) : Result :=
  requireCp1 s (storeBytes 8 (readFpr64 ft s) (effectiveAddress base offset s) s)

end Sys2Proof.Machine
end

