-- ==== Sys2Proof/Machine/MulDiv.lean ====
section
/-! DEFINITION. Multiply, divide and the moves of `hi` and `lo` (spec/41_muldiv.md). -/

namespace Sys2Proof.Machine

/-- `hi` and `lo` together. -/
def writeHiLo (hi lo : Word) (s : State) : State := { s with hi := hi, lo := lo }

/-- `hi` and `lo` from the halves of a 64-bit product, sign-extended (R221, R222). -/
def writeProduct32 (p : Word) (s : State) : State := writeHiLo (sext32 (hi32 p)) (sext32 (lo32 p)) s

/-- `hi` and `lo` from the halves of a 128-bit product (R223, R224). -/
def writeProduct64 (p : BitVec 128) (s : State) : State := writeHiLo (p.extractLsb' 64 64) (p.extractLsb' 0 64) s

/-- Division by zero (U1): `lo` and `hi` are two free values. -/
def drawHiLo (s : State) : State :=
  { s with lo := Config.freeWord s.draws, hi := Config.freeWord (s.draws + 1), draws := s.draws + 2 }

/-- A 32-bit division: free values for a zero divisor, else quotient and remainder sign-extended (R225, R226). -/
def writeDivision32 (divisor : Word32) (quotient remainder : Word32) (s : State) : State :=
  if divisor = 0 then drawHiLo s else writeHiLo (sext32 remainder) (sext32 quotient) s

/-- A 64-bit division (R227, R228). -/
def writeDivision64 (divisor : Word) (quotient remainder : Word) (s : State) : State :=
  if divisor = 0 then drawHiLo s else writeHiLo remainder quotient s

/-- The quotient rounded toward zero of two signed values, wrapped to their width (R225, R227). -/
def signedQuotient {n : Nat} (a b : BitVec n) : BitVec n := BitVec.ofInt n (a.toInt.tdiv b.toInt)

/-- The remainder that goes with `signedQuotient`: it has the sign of the dividend (R225, R227). -/
def signedRemainder {n : Nat} (a b : BitVec n) : BitVec n :=
  BitVec.ofInt n (a.toInt - a.toInt.tdiv b.toInt * b.toInt)

/-- `MULT` (R221). -/
def execMult (rs rt : Reg) (s : State) : Result :=
  .next (writeProduct32
    (BitVec.ofInt 64 ((lo32 (readGpr rs s)).toInt * (lo32 (readGpr rt s)).toInt)) s)

/-- `MULTU` (R222). -/
def execMultu (rs rt : Reg) (s : State) : Result :=
  .next (writeProduct32
    (BitVec.ofNat 64 ((lo32 (readGpr rs s)).toNat * (lo32 (readGpr rt s)).toNat)) s)

/-- `DMULT` (R223). -/
def execDmult (rs rt : Reg) (s : State) : Result :=
  .next (writeProduct64 (BitVec.ofInt 128 ((readGpr rs s).toInt * (readGpr rt s).toInt)) s)

/-- `DMULTU` (R224). -/
def execDmultu (rs rt : Reg) (s : State) : Result :=
  .next (writeProduct64 (BitVec.ofNat 128 ((readGpr rs s).toNat * (readGpr rt s).toNat)) s)

/-- `DIV` (R225). -/
def execDiv (rs rt : Reg) (s : State) : Result :=
  let n := lo32 (readGpr rs s)
  let d := lo32 (readGpr rt s)
  .next (writeDivision32 d (signedQuotient n d) (signedRemainder n d) s)

/-- `DIVU` (R226). -/
def execDivu (rs rt : Reg) (s : State) : Result :=
  let n := lo32 (readGpr rs s)
  let d := lo32 (readGpr rt s)
  .next (writeDivision32 d (n / d) (n % d) s)

/-- `DDIV` (R227). -/
def execDdiv (rs rt : Reg) (s : State) : Result :=
  let n := readGpr rs s
  let d := readGpr rt s
  .next (writeDivision64 d (signedQuotient n d) (signedRemainder n d) s)

/-- `DDIVU` (R228). -/
def execDdivu (rs rt : Reg) (s : State) : Result :=
  let n := readGpr rs s
  let d := readGpr rt s
  .next (writeDivision64 d (n / d) (n % d) s)

/-- `MFHI` (R229). -/
def execMfhi (rd : Reg) (s : State) : Result :=
  .next (writeGpr rd s.hi s)

/-- `MTHI` (R230). -/
def execMthi (rs : Reg) (s : State) : Result :=
  .next (writeHiLo (readGpr rs s) s.lo s)

/-- `MFLO` (R231). -/
def execMflo (rd : Reg) (s : State) : Result :=
  .next (writeGpr rd s.lo s)

/-- `MTLO` (R232). -/
def execMtlo (rs : Reg) (s : State) : Result :=
  .next (writeHiLo s.hi (readGpr rs s) s)

end Sys2Proof.Machine
end

