-- ==== Sys2Proof/Machine/Shift.lean ====
section
/-! DEFINITION. Shifts (spec/40_integer_alu.md R195 to R209). -/

namespace Sys2Proof.Machine

/-- `SLL` (R195). -/
def execSll (rd rt : Reg) (sa : Nat) (s : State) : Result :=
  .next (writeGpr rd (sext32 (lo32 (readGpr rt s) <<< sa)) s)

/-- `SRL` (R196). -/
def execSrl (rd rt : Reg) (sa : Nat) (s : State) : Result :=
  .next (writeGpr rd (sext32 (lo32 (readGpr rt s) >>> sa)) s)

/-- `SRA` (R197). -/
def execSra (rd rt : Reg) (sa : Nat) (s : State) : Result :=
  .next (writeGpr rd (sext32 ((lo32 (readGpr rt s)).sshiftRight sa)) s)

/-- `SLLV` (R198): only the low 5 bits of `x[rs]` count. -/
def execSllv (rd rt rs : Reg) (s : State) : Result :=
  .next (writeGpr rd (sext32 (lo32 (readGpr rt s) <<< shift5 rs s)) s)

/-- `SRLV` (R199): only the low 5 bits of `x[rs]` count. -/
def execSrlv (rd rt rs : Reg) (s : State) : Result :=
  .next (writeGpr rd (sext32 (lo32 (readGpr rt s) >>> shift5 rs s)) s)

/-- `SRAV` (R200): only the low 5 bits of `x[rs]` count. -/
def execSrav (rd rt rs : Reg) (s : State) : Result :=
  .next (writeGpr rd (sext32 ((lo32 (readGpr rt s)).sshiftRight (shift5 rs s))) s)

/-- `DSLL` (R201). -/
def execDsll (rd rt : Reg) (sa : Nat) (s : State) : Result :=
  .next (writeGpr rd (readGpr rt s <<< sa) s)

/-- `DSRL` (R202). -/
def execDsrl (rd rt : Reg) (sa : Nat) (s : State) : Result :=
  .next (writeGpr rd (readGpr rt s >>> sa) s)

/-- `DSRA` (R203). -/
def execDsra (rd rt : Reg) (sa : Nat) (s : State) : Result :=
  .next (writeGpr rd ((readGpr rt s).sshiftRight sa) s)

/-- `DSLL32` (R204). -/
def execDsll32 (rd rt : Reg) (sa : Nat) (s : State) : Result :=
  .next (writeGpr rd (readGpr rt s <<< (sa + 32)) s)

/-- `DSRL32` (R205). -/
def execDsrl32 (rd rt : Reg) (sa : Nat) (s : State) : Result :=
  .next (writeGpr rd (readGpr rt s >>> (sa + 32)) s)

/-- `DSRA32` (R206). -/
def execDsra32 (rd rt : Reg) (sa : Nat) (s : State) : Result :=
  .next (writeGpr rd ((readGpr rt s).sshiftRight (sa + 32)) s)

/-- `DSLLV` (R207): only the low 6 bits of `x[rs]` count. -/
def execDsllv (rd rt rs : Reg) (s : State) : Result :=
  .next (writeGpr rd (readGpr rt s <<< shift6 rs s) s)

/-- `DSRLV` (R208): only the low 6 bits of `x[rs]` count. -/
def execDsrlv (rd rt rs : Reg) (s : State) : Result :=
  .next (writeGpr rd (readGpr rt s >>> shift6 rs s) s)

/-- `DSRAV` (R209): only the low 6 bits of `x[rs]` count. -/
def execDsrav (rd rt rs : Reg) (s : State) : Result :=
  .next (writeGpr rd ((readGpr rt s).sshiftRight (shift6 rs s)) s)

end Sys2Proof.Machine
end

