-- ==== Sys2Proof/Machine/Trap.lean ====
section
/-! DEFINITION. Conditional traps, software faults, `SYNC`, `CACHE` and the coprocessor 2 opcodes
(spec/44_trap_system.md). -/

namespace Sys2Proof.Machine

/-- A conditional trap (R330): `Trap`, or nothing. -/
def trapIf (c : Bool) (s : State) : Result := if c then .next (raise .trap s) else .next s

/-- The defined fault of the coprocessor 2 opcodes (R346). -/
def coprocessor2Fault (s : State) : Result :=
  if coprocessorEnabled s 2 then .next (raise .reservedInstruction s)
  else .next (raise (.coprocessorUnusable 2) s)

/-- `TGE` (R331). -/
def execTge (rs rt : Reg) (_code : BitVec 10) (s : State) : Result :=
  trapIf (!(readGpr rs s).slt (readGpr rt s)) s

/-- `TGEU` (R332). -/
def execTgeu (rs rt : Reg) (_code : BitVec 10) (s : State) : Result :=
  trapIf (!(readGpr rs s).ult (readGpr rt s)) s

/-- `TLT` (R333). -/
def execTlt (rs rt : Reg) (_code : BitVec 10) (s : State) : Result :=
  trapIf ((readGpr rs s).slt (readGpr rt s)) s

/-- `TLTU` (R334). -/
def execTltu (rs rt : Reg) (_code : BitVec 10) (s : State) : Result :=
  trapIf ((readGpr rs s).ult (readGpr rt s)) s

/-- `TEQ` (R335). -/
def execTeq (rs rt : Reg) (_code : BitVec 10) (s : State) : Result :=
  trapIf (decide (readGpr rs s = readGpr rt s)) s

/-- `TNE` (R336). -/
def execTne (rs rt : Reg) (_code : BitVec 10) (s : State) : Result :=
  trapIf (decide (readGpr rs s ≠ readGpr rt s)) s

/-- `TGEI` (R337). -/
def execTgei (rs : Reg) (imm : Imm16) (s : State) : Result :=
  trapIf (!(readGpr rs s).slt (immSigned imm)) s

/-- `TGEIU` (R338). -/
def execTgeiu (rs : Reg) (imm : Imm16) (s : State) : Result :=
  trapIf (!(readGpr rs s).ult (immSigned imm)) s

/-- `TLTI` (R339). -/
def execTlti (rs : Reg) (imm : Imm16) (s : State) : Result :=
  trapIf ((readGpr rs s).slt (immSigned imm)) s

/-- `TLTIU` (R340). -/
def execTltiu (rs : Reg) (imm : Imm16) (s : State) : Result :=
  trapIf ((readGpr rs s).ult (immSigned imm)) s

/-- `TEQI` (R341). -/
def execTeqi (rs : Reg) (imm : Imm16) (s : State) : Result :=
  trapIf (decide (readGpr rs s = immSigned imm)) s

/-- `TNEI` (R342). -/
def execTnei (rs : Reg) (imm : Imm16) (s : State) : Result :=
  trapIf (decide (readGpr rs s ≠ immSigned imm)) s

/-- `SYSCALL` (R343). -/
def execSyscall (_code : BitVec 20) (s : State) : Result :=
  .next (raise .syscall s)

/-- `BREAK` (R348). -/
def execBrk (_code : BitVec 20) (s : State) : Result :=
  .next (raise .breakpoint s)

/-- `SYNC` (R344): there is nothing to order (R120, R121). -/
def execSync (_stype : BitVec 5) (s : State) : Result :=
  .next s

/-- `CACHE` (R345): a no-op once the system coprocessor is usable. -/
def execCache (_op : BitVec 5) (_offset : Imm16) (_base : Reg) (s : State) : Result :=
  requireCp0 s (.next s)

/-- `COP2` (R346). -/
def execCop2 (_cofun : BitVec 26) (s : State) : Result :=
  coprocessor2Fault s

/-- `LWC2` (R346). -/
def execLwc2 (_rt : Reg) (_offset : Imm16) (_base : Reg) (s : State) : Result :=
  coprocessor2Fault s

/-- `LDC2` (R346). -/
def execLdc2 (_rt : Reg) (_offset : Imm16) (_base : Reg) (s : State) : Result :=
  coprocessor2Fault s

/-- `SWC2` (R346). -/
def execSwc2 (_rt : Reg) (_offset : Imm16) (_base : Reg) (s : State) : Result :=
  coprocessor2Fault s

/-- `SDC2` (R346). -/
def execSdc2 (_rt : Reg) (_offset : Imm16) (_base : Reg) (s : State) : Result :=
  coprocessor2Fault s

end Sys2Proof.Machine
end

