-- ==== Sys2Proof/Machine/Execute.lean ====
section
/-! DEFINITION. One step of the core (spec/00_scope.md R10): environment, timer, interrupt, fetch, decode, execute,
retire; and the placing of an instruction where the next step fetches. -/

namespace Sys2Proof.Machine

/-- The exception of a reserved encoding (R347), after the usability check of its coprocessor (R151). -/
def reservedEncoding (place : ReservedIn) (s : State) : Result :=
  match place with
  | .cop0 => requireCp0 s (.next (raise .reservedInstruction s))
  | .cop1 => requireCp1 s (.next (raise .reservedInstruction s))
  | .primary | .special | .regimm => .next (raise .reservedInstruction s)

/-- `Execute(Decode(insn))` (R10 step 3). A whole word is never `truncated`; that case counts as reserved. -/
def executeWord (w : Word32) (s : State) : Result :=
  match decodeWord w with
  | .instr i => exec i s
  | .reserved place => reservedEncoding place s
  | .truncated => .next (raise .reservedInstruction s)

/-- Steps 4 and 5 of R10 on the outcome of a step's execution. -/
def retireResult (r : Result) : Result :=
  match r with
  | .next t => .next (retire t)
  | .fault f => .fault f
  | .refused e => .refused e

/-- The state at step 0b of R10: the environment has acted (R9), and the timer has been checked (step 0a). -/
def beginStep (s : State) : State := timerCheck (deliverInputs s)

/-- Steps 1 to 3 of R10: fetch, decode, execute. -/
def fetchAndExecute (s : State) : Result := withAccess (fetchWord s) s fun w => executeWord w s

/-- `Step()` (R10). A step that takes an interrupt executes no instruction (R513, D6). -/
def runStep (s : State) : Result :=
  let b := beginStep s
  if interruptPending b then retireResult (.next (raise .interrupt b)) else retireResult (fetchAndExecute b)

/-- The four bytes of an instruction word stored at a physical address in the configured byte order (R87). -/
def storeWord (pa : Nat) (w : Word32) (s : State) : State :=
  { s with mem := writeLanes s.cfg.bigEndian s.mem pa 4 (zext32 w) (BitVec.allOnes 64) 4 }

/-- The state with a word stored where the next step fetches its instruction, when the fetch address translates. -/
def placeFetchWord (s : State) (nbits w : Nat) : State :=
  match translateFetch s with
  | .ok pa => storeWord pa (BitVec.ofNat 32 (w % 2 ^ nbits)) s
  | _ => s

end Sys2Proof.Machine
end

