-- ==== Sys2Proof/Machine/Step.lean ====
section
/-! DEFINITION. The step function and the host's way to place an instruction for it. -/

namespace Sys2Proof.Machine

/-- One step of the core (R10). -/
def step (s : State) : Host.Outcome State Fault Refusal := Sys2Proof.Machine.runStep s

/-- `s` with an instruction stored where `step` fetches its next instruction. It stands for the platform's loading of
memory from outside the core (assumption 6). -/
def State.withFetchWord (s : State) (nbits w : Nat) : State := Sys2Proof.Machine.placeFetchWord s nbits w

end Sys2Proof.Machine
end

