-- ==== Sys2Proof/Safety.lean ====
section
/-! DEFINITION. The terms in which claims speak about the machine: what an instruction leaves unchanged, part of the
state by part of the state; what completing means; and the invariant that every step keeps. -/

namespace Sys2Proof.Machine

/-! ### Frames: two states that agree on a part -/

/-- Every general register but those listed reads the same. -/
def GprsSameExcept (written : List Reg) (s t : State) : Prop :=
  ∀ r : Reg, r ∉ written → readGpr r t = readGpr r s

/-- Program counter and branch pipeline are the same; the end of the step moves them (R241). -/
def FlowSame (s t : State) : Prop :=
  t.pc = s.pc ∧ t.branchState = s.branchState ∧ t.branchTarget = s.branchTarget

/-- `hi` and `lo` are the same. -/
def HiLoSame (s t : State) : Prop := t.hi = s.hi ∧ t.lo = s.lo

/-- Every cell of the floating-point data registers is the same. -/
def FprsSame (s t : State) : Prop := t.fpr = s.fpr

/-- Every floating-point control register and condition bit is the same. -/
def FpControlSame (s t : State) : Prop := t.ccr1 = s.ccr1 ∧ t.fcc = s.fcc

/-- Every system-coprocessor data register is the same, Status and the exception registers among them. -/
def Cp0Same (s t : State) : Prop := t.cp0 = s.cp0

/-- The rest of the system state is the same: control registers, condition bits, TLB, timer. -/
def SystemRestSame (s t : State) : Prop :=
  t.ccr0 = s.ccr0 ∧ t.cc0 = s.cc0 ∧ t.tlb = s.tlb ∧ t.countZeroTime = s.countZeroTime ∧
    t.compareArmed = s.compareArmed ∧ t.timerDeadline = s.timerDeadline

/-- The atomic latches are the same. -/
def LatchesSame (s t : State) : Prop := t.llValue = s.llValue ∧ t.lldValue = s.lldValue

/-- Every byte of physical memory reads the same, but those at the listed addresses. -/
def MemorySameExcept (written : Nat → Prop) (s t : State) : Prop :=
  ∀ a : Nat, ¬ written a → t.mem.readByte a = s.mem.readByte a

/-- Every byte of physical memory reads the same. -/
def MemorySame (s t : State) : Prop := ∀ a : Nat, t.mem.readByte a = s.mem.readByte a

/-- What only the environment, the end of a step and the configuration decide is the same (R8, R66). -/
def OutsideSame (s t : State) : Prop :=
  t.cycles = s.cycles ∧ t.inputs = s.inputs ∧ t.steps = s.steps ∧ t.cfg = s.cfg

/-- All that an integer instruction with a register result leaves as it was. -/
def OnlyGprs (written : List Reg) (s t : State) : Prop :=
  GprsSameExcept written s t ∧ FlowSame s t ∧ HiLoSame s t ∧ FprsSame s t ∧ FpControlSame s t ∧ Cp0Same s t ∧
    SystemRestSame s t ∧ LatchesSame s t ∧ MemorySame s t ∧ OutsideSame s t

/-- All that a jump or branch leaves as it was: only the branch pipeline and the link register may differ. -/
def OnlyFlowAndLink (written : List Reg) (s t : State) : Prop :=
  GprsSameExcept written s t ∧ t.pc = s.pc ∧ HiLoSame s t ∧ FprsSame s t ∧ FpControlSame s t ∧ Cp0Same s t ∧
    SystemRestSame s t ∧ LatchesSame s t ∧ MemorySame s t ∧ OutsideSame s t

/-- All that an instruction whose only result is `hi` and `lo` leaves as it was. -/
def OnlyHiLo (s t : State) : Prop :=
  GprsSameExcept [] s t ∧ FlowSame s t ∧ FprsSame s t ∧ FpControlSame s t ∧ Cp0Same s t ∧ SystemRestSame s t ∧
    LatchesSame s t ∧ MemorySame s t ∧ OutsideSame s t

/-- All that a store leaves as it was: the bytes outside `written`, and every register. -/
def OnlyMemory (written : Nat → Prop) (s t : State) : Prop :=
  GprsSameExcept [] s t ∧ FlowSame s t ∧ HiLoSame s t ∧ FprsSame s t ∧ FpControlSame s t ∧ Cp0Same s t ∧
    SystemRestSame s t ∧ LatchesSame s t ∧ MemorySameExcept written s t ∧ OutsideSame s t

/-- All that an instruction with a floating-point register result leaves as it was, the data registers apart. -/
def OnlyFprs (s t : State) : Prop :=
  GprsSameExcept [] s t ∧ FlowSame s t ∧ HiLoSame s t ∧ FpControlSame s t ∧ Cp0Same s t ∧ SystemRestSame s t ∧
    LatchesSame s t ∧ MemorySame s t ∧ OutsideSame s t

/-- All that an instruction with a floating-point control result leaves as it was. -/
def OnlyFpControl (s t : State) : Prop :=
  GprsSameExcept [] s t ∧ FlowSame s t ∧ HiLoSame s t ∧ FprsSame s t ∧ Cp0Same s t ∧ SystemRestSame s t ∧
    LatchesSame s t ∧ MemorySame s t ∧ OutsideSame s t

/-- All that exception entry leaves as it was (R503): everything but the program counter, the branch state and the
system-coprocessor registers it writes. -/
def OnlyEntryState (s t : State) : Prop :=
  t.gpr = s.gpr ∧ t.branchTarget = s.branchTarget ∧ HiLoSame s t ∧ FprsSame s t ∧ FpControlSame s t ∧
    SystemRestSame s t ∧ LatchesSame s t ∧ t.mem = s.mem ∧ OutsideSame s t ∧ t.draws = s.draws

/-- The bytes of an `n`-byte access at a physical address. -/
def AccessBytes (pa n : Nat) (a : Nat) : Prop := pa ≤ a ∧ a < pa + n

/-! ### Reading values as numbers -/

/-- `signed(v[31:0])`. -/
def signedLow (v : Word) : Int := (lo32 v).toInt

/-- `unsigned(v[31:0])`. -/
def unsignedLow (v : Word) : Nat := (lo32 v).toNat

/-- `sext32(x mod 2^32)` for an exact integer `x`. -/
def wrap32 (x : Int) : Word := BitVec.ofInt 64 (x.bmod (2 ^ 32))

/-- `x mod 2^64` for an exact integer `x`. -/
def wrap64 (x : Int) : Word := BitVec.ofInt 64 x

/-- The number spelled by the lowest `k` byte lanes of an `n`-byte access at `pa` (R87). -/
def lanesValue (bigEndian : Bool) (m : Memory) (pa n : Nat) : Nat → Nat
  | 0 => 0
  | k + 1 => lanesValue bigEndian m pa n k + (m.readByte (laneAddr bigEndian pa n k)).toNat * 256 ^ k

/-- The number that the `n` bytes at `pa` spell in the configured byte order (R84, R87). -/
def memoryValue (s : State) (pa n : Nat) : Nat := lanesValue s.cfg.bigEndian s.mem pa n n

/-- A load of `n` bytes at `va` meets no exception and reads at `pa` (R90). -/
def LoadReady (s : State) (va : Word) (n pa : Nat) : Prop :=
  va.toNat % n = 0 ∧ (∃ a : Attr, translate s va .read = .ok (pa, a)) ∧ busFails s.cfg false pa n = false

/-- A store of `n` bytes at `va` meets no exception and writes at `pa` (R91), in a memory of the canonical form that
every step keeps. -/
def StoreReady (s : State) (va : Word) (n pa : Nat) : Prop :=
  va.toNat % n = 0 ∧ (∃ a : Attr, translate s va .write = .ok (pa, a)) ∧ busFails s.cfg true pa n = false ∧
    s.mem.wf = true

/-! ### Segments as address ranges -/

/-- The address is in a segment that is mapped through the TLB (the rows of R102, or of R103 when `wide`). -/
def InMappedSegment (m : Mode) (wide : Bool) (va : Word) : Prop :=
  let within := fun first last : Nat => first ≤ va.toNat ∧ va.toNat ≤ last
  match m, wide with
  | .user, false => within 0 0x7FFFFFFF
  | .user, true => within 0 0xFFFFFFFFFF
  | .supervisor, false => within 0 0x7FFFFFFF ∨ within 0xFFFFFFFFC0000000 0xFFFFFFFFDFFFFFFF
  | .supervisor, true => within 0 0xFFFFFFFFFF ∨ within 0x4000000000000000 0x400000FFFFFFFFFF ∨
      within 0xFFFFFFFFC0000000 0xFFFFFFFFDFFFFFFF
  | .kernel, false => within 0 0x7FFFFFFF ∨ within 0xFFFFFFFFC0000000 0xFFFFFFFFFFFFFFFF
  | .kernel, true => within 0 0xFFFFFFFFFF ∨ within 0x4000000000000000 0x400000FFFFFFFFFF ∨
      within 0xC000000000000000 0xC00000FF7FFFFFFF ∨ within 0xFFFFFFFFC0000000 0xFFFFFFFFFFFFFFFF

/-- The address is in a segment that is not mapped: the two windows of the kernel, and with 64-bit addressing the
physical window where address bits 58:36 are 0 (R102, R103). -/
def InUnmappedSegment (m : Mode) (wide : Bool) (va : Word) : Prop :=
  m = .kernel ∧ ((0xFFFFFFFF80000000 ≤ va.toNat ∧ va.toNat ≤ 0xFFFFFFFFBFFFFFFF) ∨
    (wide = true ∧ 0x8000000000000000 ≤ va.toNat ∧ va.toNat ≤ 0xBFFFFFFFFFFFFFFF ∧ va.extractLsb' 36 23 = 0))

/-! ### What an instruction does, as claims say it -/

/-- The instruction completes and its only effect is general register `rd <- v`; register 0 keeps reading 0. -/
def WritesGpr (i : Instr) (s : State) (rd : Reg) (v : Word) : Prop :=
  ∃ t, exec i s = .next t ∧ (rd ≠ 0 → readGpr rd t = v) ∧ readGpr 0 t = 0 ∧ OnlyGprs [rd] s t

/-- The instruction completes and its only effect is on `hi` and `lo`. -/
def WritesHiLo (i : Instr) (s : State) (hi lo : Word) : Prop :=
  ∃ t, exec i s = .next t ∧ t.hi = hi ∧ t.lo = lo ∧ OnlyHiLo s t

/-- The instruction takes exactly this exception. -/
def Raises (i : Instr) (s : State) (e : Exc) : Prop := exec i s = .next (raise e s)

/-- The instruction completes and changes nothing. -/
def DoesNothing (i : Instr) (s : State) : Prop := exec i s = .next s

/-- The instruction completes as a taken branch to `target`, having written `link` (if any) to register 31. -/
def Branches (i : Instr) (s : State) (target : Word) (link : Option (Reg × Word)) : Prop :=
  ∃ t, exec i s = .next t ∧ t.branchState = .branch ∧ t.branchTarget = target ∧
    (∀ p, link = some p → p.1 ≠ 0 → readGpr p.1 t = p.2) ∧
    OnlyFlowAndLink (match link with | some p => [p.1] | none => []) s t

/-- The instruction completes as a branch not taken: the pipeline goes on (`nullified` false) or skips the slot. -/
def FallsThrough (i : Instr) (s : State) (nullified : Bool) (link : Option (Reg × Word)) : Prop :=
  ∃ t, exec i s = .next t ∧ t.branchState = (if nullified then .nullify else s.branchState) ∧
    t.branchTarget = s.branchTarget ∧ (∀ p, link = some p → p.1 ≠ 0 → readGpr p.1 t = p.2) ∧
    OnlyFlowAndLink (match link with | some p => [p.1] | none => []) s t

/-- The cells of the floating-point file other than the one register `n` names are the same. -/
def OtherFprCellsSame (n : Reg) (s t : State) : Prop :=
  ∀ k (h : k < 32), k ≠ (fprCell n s).toNat → t.fpr[k] = s.fpr[k]

/-- The half of a cell that a 32-bit write through `n` leaves alone is the same (R58). -/
def OtherHalfSame (n : Reg) (s t : State) : Prop :=
  if usesHighHalf n s then lo32 (readFpr64 n t) = lo32 (readFpr64 n s)
  else hi32 (readFpr64 n t) = hi32 (readFpr64 n s)

/-- The instruction completes and its only effect is a 32-bit floating register whose new value satisfies `P`. -/
def WritesFpr32 (i : Instr) (s : State) (fd : Reg) (P : Word32 → Prop) : Prop :=
  ∃ t, exec i s = .next t ∧ P (readFpr32 fd t) ∧ OtherHalfSame fd s t ∧ OtherFprCellsSame fd s t ∧ OnlyFprs s t

/-- The instruction completes and its only effect is a 64-bit floating register whose new value satisfies `P`. -/
def WritesFpr64 (i : Instr) (s : State) (fd : Reg) (P : Word → Prop) : Prop :=
  ∃ t, exec i s = .next t ∧ P (readFpr64 fd t) ∧ OtherFprCellsSame fd s t ∧ OnlyFprs s t

/-- The instruction completes and its only effect is floating condition bit `cc <- b`. -/
def WritesFcc (i : Instr) (s : State) (cc : Nat) (b : Bool) : Prop :=
  ∃ t, exec i s = .next t ∧ readFcc cc t = b ∧ (∀ k, k < 8 → k ≠ cc → readFcc k t = readFcc k s) ∧
    t.ccr1 = s.ccr1 ∧ OnlyFpControl s t

/-- The instruction completes and its only effect is on memory: lane `k` of the `n` bytes at `pa` becomes `byte k`
when `lanes k` holds, and every other byte of memory stays. -/
def StoresLanes (i : Instr) (s : State) (pa n : Nat) (byte : Nat → Byte) (lanes : Nat → Prop) : Prop :=
  ∃ t, exec i s = .next t ∧
    (∀ k, k < n → lanes k → t.mem.readByte (laneAddr s.cfg.bigEndian pa n k) = byte k) ∧
    OnlyMemory (fun a => ∃ k, k < n ∧ lanes k ∧ a = laneAddr s.cfg.bigEndian pa n k) s t

/-! ### Floating-point values as numbers -/

/-- The number that a magnitude (a pattern without its sign) stands for; above the finite magnitudes it goes on as if
the exponent range did (R390). -/
def magnitudeValue (f : FpFormat) (g : Nat) : ℚ :=
  if g / 2 ^ f.fracBits = 0 then (g : ℚ) * 2 ^ minExponent f
  else ((2 ^ f.fracBits + g % 2 ^ f.fracBits : Nat) : ℚ) * 2 ^ (minExponent f + ((g / 2 ^ f.fracBits : Nat) - 1))

/-- The number that a finite pattern stands for. -/
def patternValue (f : FpFormat) (bits : Nat) : ℚ :=
  (if signOf f bits then -1 else 1) * magnitudeValue f (magnitudeOf f bits)

/-- A pattern that is neither an infinity nor a NaN (R392). -/
def IsFinitePattern (f : FpFormat) (bits : Nat) : Prop := magnitudeOf f bits < infinityMagnitude f

/-- An infinity (R392). -/
def IsInfinityPattern (f : FpFormat) (bits : Nat) : Prop := magnitudeOf f bits = infinityMagnitude f

/-- `r` is the integer that `x` rounds to in a direction (R401). -/
def IsRoundedInteger (rm : RoundingMode) (x : ℚ) (r : Int) : Prop :=
  match rm with
  | .nearestEven => 2 * |x - r| ≤ 1 ∧ (2 * |x - r| = 1 → r % 2 = 0)
  | .towardZero => r = if 0 ≤ x then ⌊x⌋ else ⌈x⌉
  | .up => r = ⌈x⌉
  | .down => r = ⌊x⌋

/-- Of the two neighbouring magnitudes `g` and `g + 1` around `x`, the one that rounding a number of this sign and
magnitude `x` chooses (R391). -/
def ChosenMagnitude (f : FpFormat) (rm : RoundingMode) (negative : Bool) (x : ℚ) (g p : Nat) : Prop :=
  let low := magnitudeValue f g
  let high := magnitudeValue f (g + 1)
  if x = low then p = g
  else match rm with
    | .nearestEven =>
      (2 * x < low + high → p = g) ∧ (low + high < 2 * x → p = g + 1) ∧
        (2 * x = low + high → (p = g ∨ p = g + 1) ∧ p % 2 = 0)
    | .towardZero => p = g
    | .up => p = if negative then g else g + 1
    | .down => p = if negative then g + 1 else g

/-- `bits` is the number of sign `negative` and magnitude `x` rounded once to the format (R391): a neighbour of `x`
by the rounding mode, or, from the power of two above the largest finite number on, infinity or that largest number
as the mode and sign have it. -/
def IsRoundedPattern (f : FpFormat) (rm : RoundingMode) (negative : Bool) (x : ℚ) (bits : Nat) : Prop :=
  (x < magnitudeValue f (infinityMagnitude f) → ∃ g p, g < infinityMagnitude f ∧ magnitudeValue f g ≤ x ∧
    x < magnitudeValue f (g + 1) ∧ ChosenMagnitude f rm negative x g p ∧ bits = withSign f negative p) ∧
  (magnitudeValue f (infinityMagnitude f) ≤ x →
    bits = withSign f negative
      (if rm = .nearestEven ∨ (rm = .up ∧ negative = false) ∨ (rm = .down ∧ negative = true)
       then infinityMagnitude f else infinityMagnitude f - 1))

/-- `bits` is the square root of `x`, which is positive, rounded once to the format (R391): the root lies between two
neighbouring magnitudes, which its square `x` tells; it is never half-way. -/
def IsRoundedRoot (f : FpFormat) (rm : RoundingMode) (x : ℚ) (bits : Nat) : Prop :=
  ∃ g, let low := magnitudeValue f g
    let high := magnitudeValue f (g + 1)
    low * low ≤ x ∧ x < high * high ∧
    (x = low * low → bits = g) ∧
    (x ≠ low * low → match rm with
      | .nearestEven => (4 * x < (low + high) * (low + high) → bits = g) ∧
        ((low + high) * (low + high) ≤ 4 * x → bits = g + 1)
      | .towardZero | .down => bits = g
      | .up => bits = g + 1)

/-! ### The timer -/

/-- The timer is armed as `Rearm()` arms it (R523): for the next time at which Count, going on from where it is, equals
Compare, a whole period away when they are equal now. -/
def ArmedForNextMatch (s : State) : Prop :=
  let counts := (s.cp0.compare - countValue s).toNat
  s.compareArmed = true ∧
    s.timerDeadline = s.cycles - BitVec.ofNat 64 ((s.cycles - s.countZeroTime).toNat % s.cfg.countDiv) +
      BitVec.ofNat 64 ((if counts = 0 then 2 ^ 32 else counts) * s.cfg.countDiv)

/-! ### The invariant -/

/-- The bits of the system-coprocessor registers that read 0 do so (R31, R33 to R36, R40, R43, R49). -/
def ReservedBitsZero (c : Cp0) : Prop :=
  c.index &&& 0x7FFFFFC0#32 = 0 ∧ c.entryLo0 &&& 0xFFFFFFFFC0000000#64 = 0 ∧
    c.entryLo1 &&& 0xFFFFFFFFC0000000#64 = 0 ∧ c.context &&& 0xF#64 = 0 ∧
    c.pageMask &&& 0xFE001FFF#32 = 0 ∧ c.wired &&& 0xFFFFFFC0#32 = 0 ∧
    c.entryHi &&& 0x3FFFFF0000001F00#64 = 0 ∧ c.cause &&& 0x4FFF0083#32 = 0 ∧ c.xContext &&& 0xF#64 = 0

/-- What holds between steps in every state that the machine can reach: register 0 holds 0 (R21), the branch pipeline
is at rest or in a delay slot (R23), reserved bits are 0, and memory is in its canonical form. -/
structure Inv (s : State) : Prop where
  zeroRegister : s.gpr[0] = 0
  branchAtRest : s.branchState = .none ∨ s.branchState = .delay
  reservedBits : ReservedBitsZero s.cp0
  memoryForm : s.mem.wf = true

/-- What nothing ever changes: the configuration, and the registers and bits that are read-only (R8, R28, R45, R46,
R60). -/
def FixedSame (s t : State) : Prop :=
  t.cfg = s.cfg ∧ t.cp0.prid = s.cp0.prid ∧ t.cp0.config &&& ~~~0x3F#32 = s.cp0.config &&& ~~~0x3F#32 ∧
    t.ccr1[0] = s.ccr1[0] ∧ t.cc0 = s.cc0

end Sys2Proof.Machine
end

