-- ==== Sys2Proof/Certificates/Slice0/Obligations.lean ====
section
/-! DEFINITION. The statements for the provers. Each docstring names the rules a statement formalises; the predicates
they use (frames, results, readiness of an access, the invariant) are in Sys2Proof/Safety.lean. -/

open Sys2Proof Sys2Proof.Machine

/-! ### Encoding -/

/-- R140 to R149: the decoder reads back every well-formed instruction from its encoding, every operand included.
Marked by the spec as its own inference or decision, in part: R142, R143, R149 (assumption 20). -/
def Obligations.DecodingInvertsEncoding : Prop :=
  ∀ i : Instr, i.wellFormed = true → decodeWord (encode i) = .instr i

/-- R140 to R149: whatever the decoder accepts is well-formed, and its canonical encoding means the same; a whole
word is never too short. Marked by the spec as its own inference or decision, in part: R142, R143, R149 (assumption
20). -/
def Obligations.DecodedInstructionsAreWellFormed : Prop :=
  (∀ (w : Word32) (i : Instr), decodeWord w = .instr i →
    i.wellFormed = true ∧ decodeWord (encode i) = decodeWord w) ∧
  (∀ w : Word32, decodeWord w ≠ .truncated)

/-- R87, R140: the four bytes of a word, laid out in either byte order, decode to what the word decodes to, and the
bytes behind them are left; and the encodings that the spec's examples write out (R152, R343, R345, R346, R347,
R369, R393, R399, R415, R425, R452, R463, R470) decode to their instructions. Marked by the spec as its own
inference or decision, in part: R87, R343, R345, R346, R347, R452, R463, R470 (assumption 20). -/
def Obligations.WordsAndBytesDecode : Prop :=
  (∀ (bigEndian : Bool) (w : Word32) (rest : List Byte),
    decodeBytes bigEndian (bytesOfWord bigEndian w ++ rest) = (decodeWord w, rest)) ∧
  decodeWord 0x00000000#32 = .instr (.sll 0 0 0) ∧
  decodeWord 0x0000000C#32 = .instr (.syscall 0) ∧
  decodeWord 0xBC000000#32 = .instr (.cache 0 0 0) ∧
  decodeWord 0x40026000#32 = .instr (.mfc0 2 12) ∧
  decodeWord 0x42000006#32 = .instr .tlbwr ∧
  decodeWord 0x42000018#32 = .instr .eret ∧
  decodeWord 0x4505FFFF#32 = .instr (.bc1t 1 0xFFFF) ∧
  decodeWord 0x46010080#32 = .instr (.addS 2 0 1) ∧
  decodeWord 0x46202086#32 = .instr (.movD 2 4) ∧
  decodeWord 0x462D2091#32 = .instr (.movtD 2 4 3) ∧
  decodeWord 0x4624113C#32 = .instr (.cLtD 1 2 4) ∧
  decodeWord 0x48000000#32 = .instr (.cop2 0) ∧
  decodeWord 0xFFFFFFFF#32 = .instr (.sd 31 0xFFFF 31) ∧
  decodeWord 0x70000000#32 = .reserved .primary

/-! ### Reset, step, branch pipeline -/

/-- R540, R542: what reset gives in every configuration of R8: the stated registers, an invalid TLB, kernel mode,
Count at 0, no interrupt possible, no coprocessor enabled, the first fetch at physical `0x1FC0_0000`. PRId, Config
and floating-point control register 0 are the parameters; so `BE` of Config is the byte order where `CONFIG_RESET`
meets the demand of R46, which the defaults of R8 do not (assumption 3). (That the interrupt lines are low and the
cycle counter is 0 is the model's choice, assumption 2.) Marked by the spec as its own inference or decision, in
part: R8, R540, R542 (assumption 20). -/
def Obligations.ResetLeavesTheStatedValues : Prop :=
  (∀ c : Config, 36 ≤ c.paBits → let s := State.resetIn c
    s.cfg = c ∧ s.pc = 0xFFFFFFFFBFC00000#64 ∧ readGpr 0 s = 0 ∧ s.branchState = .none ∧
    s.cp0.status = 0x00400004#32 ∧ s.cp0.wired = 0 ∧ s.cp0.prid = c.prid ∧ s.ccr1[0] = c.fpuImprev ∧
    s.cp0.config = c.configReset ∧ (c.beBitAgrees = true → s.cp0.config.getLsbD 15 = c.bigEndian) ∧
    s.cc0 = 0 ∧ s.compareArmed = false ∧ countValue s = 0 ∧
    (∀ e ∈ s.tlb.toList, halfV e.lo0 = false ∧ halfV e.lo1 = false) ∧
    mode s = some .kernel ∧ addr64 .kernel s = false ∧ interruptPending s = false ∧
    (∀ n : BitVec 2, coprocessorEnabled s n = false) ∧ translateFetch s = .ok 0x1FC00000) ∧
  State.reset.cfg.bigEndian = true ∧ State.reset.cp0.prid = 0x00000400#32 ∧ State.reset.cp0.config = 0 ∧
  State.reset.ccr1[0] = 0x00000500#32

/-- R10: when no interrupt is taken and the word at the program counter decodes to `i`, a step is `exec i` followed
by the end of the step, `retire`: register 0 forced to 0 and the branch pipeline resolved (R241). The cycle counter
moves on by `CYCLES_PER_STEP` of that step (R8, R66 (a); that it does so at the end of the step, and how the
parameter is held, is assumption 18), and nothing else changes. A fault of the instruction stops the step. Marked
by the spec as its own inference or decision, in part: R8, R10 (assumption 20). -/
def Obligations.StepRunsTheDecodedInstruction : Prop :=
  ∀ (s b : State) (w : Word32) (i : Instr), b = beginStep s → interruptPending b = false →
    fetchWord b = .ok w → decodeWord w = .instr i →
    (∀ t, exec i b = .next t → step s = .next (retire t) ∧
      let r := retire t
      readGpr 0 r = 0 ∧ GprsSameExcept [] t r ∧
      r.pc = (resolveBranchPipeline t).pc ∧ r.branchState = (resolveBranchPipeline t).branchState ∧
      r.cycles = t.cycles + BitVec.ofNat 64
        (match t.cfg.cyclesPerStep with | .every n => n | .own => Config.ownCyclesPerStep t.steps) ∧
      r.steps = t.steps + 1 ∧
      { r with gpr := t.gpr, pc := t.pc, branchState := t.branchState, cycles := t.cycles, steps := t.steps } = t) ∧
    (∀ f, exec i b = .fault f → step s = .fault f)

/-- R241: the transition of the branch pipeline, state by state; and every step that completes, whatever it did,
ends with it. -/
def Obligations.BranchPipelineResolution : Prop :=
  (∀ s : State, let t := resolveBranchPipeline s
    (s.branchState = .none → t.pc = s.pc + 4 ∧ t.branchState = .none) ∧
    (s.branchState = .delay → t.pc = s.branchTarget ∧ t.branchState = .none) ∧
    (s.branchState = .branch → t.pc = s.pc + 4 ∧ t.branchState = .delay) ∧
    (s.branchState = .exception → t.pc = s.pc ∧ t.branchState = .none) ∧
    (s.branchState = .nullify → t.pc = s.pc + 8 ∧ t.branchState = .none)) ∧
  (∀ s t : State, step s = .next t → ∃ u,
    (u = raise .interrupt (beginStep s) ∨ fetchAndExecute (beginStep s) = .next u) ∧
    t.pc = (resolveBranchPipeline u).pc ∧ t.branchState = (resolveBranchPipeline u).branchState ∧
    t.branchTarget = u.branchTarget)

/-- R266 (a), R240: after a step that runs a taken `BEQ` at address A, the next step (which takes no interrupt)
runs the instruction at A + 4 in the delay slot; if it completes without touching the pipeline, control is at the
target after it, and if it raises an exception with `EXL = 0`, EPC is A and `BD` is set. Marked by the spec as its
own inference or decision, in part: R266 (assumption 20). -/
def Obligations.DelaySlotRunsBeforeTheTarget : Prop :=
  ∀ (s t : State) (rs rt : Reg) (offset : Imm16), exec (.beq rs rt offset) s = .next t →
    readGpr rs s = readGpr rt s →
    (retire t).pc = s.pc + 4 ∧ (retire t).branchState = .delay ∧
    (∀ u : State, u.branchState = (retire t).branchState → u.branchTarget = (retire t).branchTarget →
      (retire u).pc = s.pc + 4 + (immSigned offset <<< 2) ∧ (retire u).branchState = .none) ∧
    (∀ (u : State) (e : Exc), u.pc = (retire t).pc → u.branchState = (retire t).branchState →
      statusExl u = false → (raise e u).cp0.epc = s.pc ∧ (raise e u).cp0.cause.getLsbD 31 = true)

/-! ### Exceptions and interrupts -/

/-- R490, R501: the code, the vector offset and the `CE` field of every exception, and the two bases. Marked by the
spec as its own inference or decision, in part: R490, R501 (assumption 20). -/
def Obligations.ExceptionCodesAndVectors : Prop :=
  ∀ (va : Word) (n : BitVec 2) (wide : Bool) (s : State),
    excCode .interrupt = 0 ∧ excCode (.tlbMod va) = 1 ∧ (∀ y, excCode (.tlbl va y) = 2) ∧
    (∀ y, excCode (.tlbs va y) = 3) ∧ excCode (.adel va) = 4 ∧ excCode (.ades va) = 5 ∧ excCode .ibe = 6 ∧
    excCode .dbe = 7 ∧ excCode .syscall = 8 ∧ excCode .breakpoint = 9 ∧ excCode .reservedInstruction = 10 ∧
    excCode (.coprocessorUnusable n) = 11 ∧ excCode .overflow = 12 ∧ excCode .trap = 13 ∧
    (∀ e, (∀ m, e ≠ .coprocessorUnusable m) → excCoprocessor e = 0) ∧
    excCoprocessor (.coprocessorUnusable n) = n ∧
    vectorOffset (.tlbl va (.refill wide)) = (if wide then 0x80 else 0) ∧
    vectorOffset (.tlbs va (.refill wide)) = (if wide then 0x80 else 0) ∧
    (∀ e, (∀ a w, e ≠ .tlbl a (.refill w) ∧ e ≠ .tlbs a (.refill w)) → vectorOffset e = 0x180) ∧
    (s.cp0.status.getLsbD 22 = true → vectorBase s = 0xFFFFFFFFBFC00200#64) ∧
    (s.cp0.status.getLsbD 22 = false → vectorBase s = 0xFFFFFFFF80000000#64)

/-- R500: taking an exception. With `EXL = 0` the restart address and `BD` are saved and the exception's own vector
is used; with `EXL = 1` both are kept and the general vector is used; the code and `CE` are written and `EXL` is
set. Marked by the spec as its own inference or decision, in part: R500 (assumption 20). -/
def Obligations.ExceptionEntry : Prop :=
  ∀ (e : Exc) (s : State), let t := raise e s
    (statusExl s = false → s.branchState = .delay → t.cp0.epc = s.pc - 4 ∧ t.cp0.cause.getLsbD 31 = true) ∧
    (statusExl s = false → s.branchState ≠ .delay → t.cp0.epc = s.pc ∧ t.cp0.cause.getLsbD 31 = false) ∧
    (statusExl s = false → t.pc = vectorBase s + vectorOffset e) ∧
    (statusExl s = true → t.cp0.epc = s.cp0.epc ∧ t.cp0.cause.getLsbD 31 = s.cp0.cause.getLsbD 31 ∧
      t.pc = vectorBase s + 0x180) ∧
    t.cp0.cause.extractLsb' 2 5 = excCode e ∧ t.cp0.cause.extractLsb' 28 2 = excCoprocessor e ∧
    statusExl t = true ∧ mode t = some .kernel ∧ t.branchState = .exception ∧ t.branchTarget = s.branchTarget

/-- R503: what entry does not do: the other Status bits, `Cause.IP`, every other system register, general and
floating-point registers, the latches, the TLB and memory are unchanged. -/
def Obligations.ExceptionEntryLeavesTheRest : Prop :=
  ∀ (e : Exc) (s : State), let t := raise e s
    OnlyEntryState s t ∧ (∀ k, k ≠ 1 → t.cp0.status.getLsbD k = s.cp0.status.getLsbD k) ∧
    t.cp0.cause.extractLsb' 8 8 = s.cp0.cause.extractLsb' 8 8 ∧
    { t.cp0 with badVAddr := s.cp0.badVAddr, context := s.cp0.context, xContext := s.cp0.xContext,
                 entryHi := s.cp0.entryHi, epc := s.cp0.epc, cause := s.cp0.cause, status := s.cp0.status } = s.cp0

/-- R504, R505, R506: the fault registers. A TLB exception loads BadVAddr, Context, XContext and EntryHi and keeps
PTEBase and ASID; an address error loads BadVAddr alone; a bus error and every other exception load none. Marked by
the spec as its own inference or decision, in part: R505, R506 (assumption 20). -/
def Obligations.FaultRegistersLoaded : Prop :=
  ∀ (e : Exc) (s : State) (va : Word), let t := raise e s
    (e = .tlbMod va ∨ (∃ y, e = .tlbl va y) ∨ (∃ y, e = .tlbs va y) →
      t.cp0.badVAddr = va ∧
      t.cp0.context.extractLsb' 4 19 = va.extractLsb' 13 19 ∧
      t.cp0.context.extractLsb' 23 41 = s.cp0.context.extractLsb' 23 41 ∧
      t.cp0.xContext.extractLsb' 31 2 = va.extractLsb' 62 2 ∧
      t.cp0.xContext.extractLsb' 4 27 = va.extractLsb' 13 27 ∧
      t.cp0.xContext.extractLsb' 33 31 = s.cp0.xContext.extractLsb' 33 31 ∧
      t.cp0.entryHi.extractLsb' 62 2 = va.extractLsb' 62 2 ∧
      t.cp0.entryHi.extractLsb' 13 27 = va.extractLsb' 13 27 ∧
      t.cp0.entryHi.extractLsb' 0 8 = s.cp0.entryHi.extractLsb' 0 8) ∧
    (e = .adel va ∨ e = .ades va → t.cp0.badVAddr = va ∧ t.cp0.context = s.cp0.context ∧
      t.cp0.xContext = s.cp0.xContext ∧ t.cp0.entryHi = s.cp0.entryHi) ∧
    ((∀ a, e ≠ .adel a ∧ e ≠ .ades a ∧ e ≠ .tlbMod a ∧ ∀ y, e ≠ .tlbl a y ∧ e ≠ .tlbs a y) →
      t.cp0.badVAddr = s.cp0.badVAddr ∧ t.cp0.context = s.cp0.context ∧ t.cp0.xContext = s.cp0.xContext ∧
      t.cp0.entryHi = s.cp0.entryHi)

/-- R512: the interrupt condition. Marked by the spec as its own inference or decision, in part: R512 (assumption
20). -/
def Obligations.InterruptCondition : Prop :=
  ∀ s : State, interruptPending s = true ↔
    (∃ k, k < 8 ∧ s.cp0.cause.getLsbD (8 + k) = true ∧ s.cp0.status.getLsbD (8 + k) = true) ∧
    s.cp0.status.getLsbD 0 = true ∧ s.cp0.status.getLsbD 1 = false ∧ s.cp0.status.getLsbD 2 = false

/-- R513: a step whose start finds an interrupt pending executes no instruction: it enters the general vector with
the address of the instruction that was about to run (or of its branch, with `BD`), code 0, `EXL` set, `Cause.IP`,
memory and every general and floating-point register unchanged, and leaves the branch pipeline at rest. Marked by
the spec as its own inference or decision, in part: R513 (assumption 20). -/
def Obligations.InterruptTakenAtStepStart : Prop :=
  ∀ s b : State, b = beginStep s → interruptPending b = true →
    ∃ t, step s = .next t ∧ t.pc = vectorBase b + 0x180 ∧ t.branchState = .none ∧
      t.cp0.epc = (if b.branchState = .delay then b.pc - 4 else b.pc) ∧
      t.cp0.cause.getLsbD 31 = decide (b.branchState = .delay) ∧
      t.cp0.cause.extractLsb' 2 5 = 0 ∧ statusExl t = true ∧
      t.cp0.cause.extractLsb' 8 8 = b.cp0.cause.extractLsb' 8 8 ∧
      GprsSameExcept [] b t ∧ HiLoSame b t ∧ FprsSame b t ∧ FpControlSame b t ∧ MemorySame b t ∧
      LatchesSame b t ∧ SystemRestSame b t

/-- R470, R471: `ERET`, usable. It returns through ErrorEPC and `ERL` when `ERL` is set, else through EPC and
`EXL`; it has no delay slot; each latch becomes a different value; nothing else changes. Marked by the spec as its
own inference or decision, in part: R470, R471 (assumption 20). -/
def Obligations.ExceptionReturn : Prop :=
  ∀ s : State, cp0Usable s = true → ∃ t, exec .eret s = .next t ∧
    (statusErl s = true → t.pc = s.cp0.errorEpc ∧ (∀ k, t.cp0.status.getLsbD k =
      (s.cp0.status.getLsbD k && decide (k ≠ 2)))) ∧
    (statusErl s = false → t.pc = s.cp0.epc ∧ (∀ k, t.cp0.status.getLsbD k =
      (s.cp0.status.getLsbD k && decide (k ≠ 1)))) ∧
    (retire t).pc = t.pc ∧ (retire t).branchState = .none ∧
    t.llValue ≠ s.llValue ∧ t.lldValue ≠ s.lldValue ∧
    GprsSameExcept [] s t ∧ HiLoSame s t ∧ FprsSame s t ∧ FpControlSame s t ∧
    { t.cp0 with status := s.cp0.status } = s.cp0 ∧ SystemRestSame s t ∧ MemorySame s t ∧ OutsideSame s t

/-! ### Timer -/

/-- R521, R522, R523: both moves to Count (`MTC0` and `DMTC0`) make Count read the low word written, with Compare
and `Cause` unchanged; both moves to Compare store it and clear `IP7`, with Count unchanged; either arms the timer
for the next match, and nothing else changes. (A divisor above 2^32 would let the product of R521 wrap: the premise
rules that out.) Marked by the spec as its own inference or decision, in part: R522 (assumption 20). -/
def Obligations.CountAndCompareWrites : Prop :=
  ∀ (s : State) (rt : Reg) (i : Instr), cp0Usable s = true → 0 < s.cfg.countDiv → s.cfg.countDiv ≤ 2 ^ 32 →
    let v := lo32 (readGpr rt s)
    let frame := fun t : State => GprsSameExcept [] s t ∧ FlowSame s t ∧ HiLoSame s t ∧ FprsSame s t ∧
      FpControlSame s t ∧ t.ccr0 = s.ccr0 ∧ t.cc0 = s.cc0 ∧ t.tlb = s.tlb ∧ LatchesSame s t ∧ MemorySame s t ∧
      OutsideSame s t ∧ t.draws = s.draws
    (i = .mtc0 rt 9 ∨ i = .dmtc0 rt 9 → ∃ t, exec i s = .next t ∧ countValue t = v ∧
      t.countZeroTime = s.cycles - BitVec.ofNat 64 (v.toNat * s.cfg.countDiv) ∧ ArmedForNextMatch t ∧
      Cp0Same s t ∧ frame t) ∧
    (i = .mtc0 rt 11 ∨ i = .dmtc0 rt 11 → ∃ t, exec i s = .next t ∧ t.cp0.compare = v ∧
      (∀ k, k < 32 → t.cp0.cause.getLsbD k = (s.cp0.cause.getLsbD k && decide (k ≠ 15))) ∧
      countValue t = countValue s ∧ t.countZeroTime = s.countZeroTime ∧ ArmedForNextMatch t ∧
      { t.cp0 with compare := s.cp0.compare, cause := s.cp0.cause } = s.cp0 ∧ frame t)

/-- R523: `timer_deadline` is the first value of `cycles` after the write at which Count equals Compare. `d` is how
far the deadline lies ahead: Count equals Compare at `d` cycles, and at no number of cycles from 1 to `d - 1`
unless it has equalled Compare without interruption since the write. (The premise keeps the 64-bit counters from
wrapping.) -/
def Obligations.TimerDeadlineIsTheNextMatch : Prop :=
  ∀ s : State, 0 < s.cfg.countDiv →
    elapsedCycles s + 2 ^ 32 * s.cfg.countDiv + s.cfg.countDiv < 2 ^ 64 →
    let t := rearm s
    let d := (t.timerDeadline - s.cycles).toNat
    let countAfter := fun n : Nat => countValue { t with cycles := s.cycles + BitVec.ofNat 64 n }
    t.compareArmed = true ∧ 0 < d ∧ d ≤ 2 ^ 32 * s.cfg.countDiv ∧ countAfter d = s.cp0.compare ∧
    (∀ n, 0 < n → n < d → countAfter n = s.cp0.compare → ∀ m, m ≤ n → countAfter m = s.cp0.compare)

/-- R523, step 0a of R10: the timer check sets `IP7` exactly when the timer is armed and its deadline has come,
then moves the deadline by whole periods to the first one after `cycles`, and changes nothing else; otherwise it
changes nothing. (The premise keeps the new deadline below 2^64, assumption 13.) Marked by the spec as its own
inference or decision, in part: R10 (assumption 20). -/
def Obligations.TimerCheckRequestsAtTheDeadline : Prop :=
  ∀ s : State, 0 < s.cfg.countDiv → s.cycles.toNat + 2 ^ 32 * s.cfg.countDiv < 2 ^ 64 → let t := timerCheck s
    let period := 2 ^ 32 * s.cfg.countDiv
    ((s.compareArmed = true ∧ s.timerDeadline ≤ s.cycles) →
      t.cp0.cause.getLsbD 15 = true ∧ (∀ j, j ≠ 15 → t.cp0.cause.getLsbD j = s.cp0.cause.getLsbD j) ∧
      s.cycles.toNat < t.timerDeadline.toNat ∧ t.timerDeadline.toNat ≤ s.cycles.toNat + period ∧
      (∃ k, 0 < k ∧ t.timerDeadline.toNat = s.timerDeadline.toNat + k * period) ∧
      { t with cp0 := { t.cp0 with cause := s.cp0.cause }, timerDeadline := s.timerDeadline } = s) ∧
    (¬(s.compareArmed = true ∧ s.timerDeadline ≤ s.cycles) → t = s)

/-! ### Translation and privilege -/

/-- R104 with R102 and R103: in kernel mode, in either addressing width, the two unmapped windows at
`0xFFFF_FFFF_8000_0000` and `0xFFFF_FFFF_A000_0000` reach the low 29 bits of the address, and with 64-bit
addressing the physical window reaches the low 36; no TLB entry matters. Marked by the spec as its own inference or
decision, in part: R102, R103, R104 (assumption 20). -/
def Obligations.UnmappedWindows : Prop :=
  ∀ (s : State) (intent : Intent) (va : Word), mode s = some .kernel → 36 ≤ s.cfg.paBits →
    (0xFFFFFFFF80000000 ≤ va.toNat → va.toNat ≤ 0xFFFFFFFF9FFFFFFF →
      translate s va intent = .ok (va.toNat % 2 ^ 29, ⟨s.cp0.config.extractLsb' 0 3, false⟩)) ∧
    (0xFFFFFFFFA0000000 ≤ va.toNat → va.toNat ≤ 0xFFFFFFFFBFFFFFFF →
      translate s va intent = .ok (va.toNat % 2 ^ 29, ⟨2, false⟩)) ∧
    (addr64 .kernel s = true → va.extractLsb' 62 2 = 2#2 → va.extractLsb' 36 23 = 0 →
      translate s va intent = .ok (va.toNat % 2 ^ 36, ⟨va.extractLsb' 59 3, false⟩))

/-- R102, R103, R105: in every mode and addressing width, an address in no segment is an address error, of the kind
of the access; an address in a segment never is. Marked by the spec as its own inference or decision, in part:
R102, R103 (assumption 20). -/
def Obligations.AddressesOutsideSegmentsAreErrors : Prop :=
  ∀ (s : State) (intent : Intent) (va : Word) (m : Mode), mode s = some m →
    (¬ InMappedSegment m (addr64 m s) va → ¬ InUnmappedSegment m (addr64 m s) va →
      translate s va intent = .raised (match intent with | .write => .ades va | _ => .adel va)) ∧
    (InMappedSegment m (addr64 m s) va ∨ InUnmappedSegment m (addr64 m s) va →
      ∀ a, translate s va intent ≠ .raised (.adel a) ∧ translate s va intent ≠ .raised (.ades a))

/-- R110 to R114: translation through the TLB in every mapped segment of every mode, by the first entry that
matches: one of the current address space, or global, whose VPN2 bits agree with the address wherever the mask
keeps them (with 64-bit addressing bits 39:13 and the region, else bits 31:13). No match is a refill; then
validity; then, for a store, the dirty bit; then the frame with the offset of the page, within `PABITS`. That an
entry with a MASK outside the table of R35 never matches is the model's choice, which U12 allows (assumption 5).
Marked by the spec as its own inference or decision, in part: R35, R110, R111, R112 (assumption 20). -/
def Obligations.MappedTranslationThroughTheTlb : Prop :=
  ∀ (s : State) (m : Mode) (intent : Intent) (va : Word), mode s = some m →
    InMappedSegment m (addr64 m s) va →
    let wide := addr64 m s
    let pageSizes : List (Nat × Nat) :=
      [(0x000, 12), (0x003, 14), (0x00F, 16), (0x03F, 18), (0x0FF, 20), (0x3FF, 22), (0xFFF, 24)]
    let matching := fun e : TlbEntry => (∃ pb, (e.mask.toNat, pb) ∈ pageSizes) ∧
      (wide = true → va.extractLsb' 62 2 = e.r) ∧
      (∀ k, k < (if wide then 27 else 19) → e.mask.getLsbD k = false → va.getLsbD (13 + k) = e.vpn2.getLsbD k) ∧
      (e.g = true ∨ e.asid = s.cp0.entryHi.extractLsb' 0 8)
    ((∀ e ∈ s.tlb.toList, ¬ matching e) →
      translate s va intent = .raised (if intent = .write then .tlbs va (.refill wide) else .tlbl va (.refill wide))) ∧
    (∀ (before after : List TlbEntry) (e : TlbEntry) (pb : Nat), s.tlb.toList = before ++ e :: after →
      (∀ x ∈ before, ¬ matching x) → matching e → (e.mask.toNat, pb) ∈ pageSizes →
      let half := if va.toNat / 2 ^ pb % 2 = 1 then e.lo1 else e.lo0
      (half.getLsbD 0 = false → translate s va intent =
        .raised (if intent = .write then .tlbs va .invalid else .tlbl va .invalid)) ∧
      (half.getLsbD 0 = true → intent = .write → half.getLsbD 1 = false →
        translate s va intent = .raised (.tlbMod va)) ∧
      (half.getLsbD 0 = true → (intent = .write → half.getLsbD 1 = true) →
        translate s va intent =
          .ok (((half.extractLsb' 5 24).toNat * 4096 / 2 ^ pb * 2 ^ pb + va.toNat % 2 ^ pb) % 2 ^ s.cfg.paBits,
            ⟨half.extractLsb' 2 3, e.g⟩)))

/-- R360: without `CU1`, every word of the five floating-point opcodes raises Coprocessor Unusable of unit 1, in
every mode and before everything else, reserved encodings and bad addresses included. -/
def Obligations.UnusableFloatingPointUnit : Prop :=
  ∀ (w : Word32) (s : State), opField w ∈ [0x11, 0x31, 0x35, 0x39, 0x3D] → s.cp0.status.getLsbD 29 = false →
    ∃ t, executeWord w s = .next t ∧ t = raise (.coprocessorUnusable 1) s ∧
      t.cp0.cause.extractLsb' 2 5 = 11 ∧ t.cp0.cause.extractLsb' 28 2 = 1

/-- R150, R151, R346, R347, R451: which words are reserved, all of them: the cells marked reserved of the maps R144
to R148, and no other word. Each raises Reserved Instruction once its coprocessor is usable; before that the
system-coprocessor opcode and `CACHE` outside kernel mode without `CU0` raise Coprocessor Unusable; the coprocessor
2 opcodes raise the one or the other by `CU2`. Marked by the spec as its own inference or decision, in part: R150,
R151, R346, R347, R451 (assumption 20). -/
def Obligations.ReservedAndUnusableEncodingsRaise : Prop :=
  ∀ (w : Word32) (s : State),
    (∀ p, decodeWord w = .reserved p →
      (p = .cop0 → cp0Usable s = true) → (p = .cop1 → s.cp0.status.getLsbD 29 = true) →
      executeWord w s = .next (raise .reservedInstruction s)) ∧
    (opField w ∈ [0x10, 0x2F] → mode s ≠ some .kernel → s.cp0.status.getLsbD 28 = false →
      executeWord w s = .next (raise (.coprocessorUnusable 0) s)) ∧
    (opField w ∈ [0x12, 0x32, 0x36, 0x3A, 0x3E] →
      executeWord w s = .next (raise
        (if s.cp0.status.getLsbD 30 then .reservedInstruction else .coprocessorUnusable 2) s)) ∧
    (decodeWord w = .reserved .primary ↔ opField w ∈ [0x13, 0x1C, 0x1D, 0x1E, 0x1F, 0x33, 0x3B]) ∧
    (decodeWord w = .reserved .special ↔ opField w = 0 ∧
      functField w ∈ [0x01, 0x05, 0x0A, 0x0B, 0x0E, 0x15, 0x28, 0x29, 0x35, 0x37, 0x39, 0x3D]) ∧
    (decodeWord w = .reserved .regimm ↔ opField w = 1 ∧
      ((rtField w).toNat ∈ [0x04, 0x05, 0x06, 0x07, 0x0D, 0x0F] ∨ 0x14 ≤ (rtField w).toNat)) ∧
    (decodeWord w = .reserved .cop0 ↔ opField w = 0x10 ∧
      (rsField w ∈ [0x03, 0x07, 0x09, 0x0A, 0x0B, 0x0C, 0x0D, 0x0E, 0x0F] ∨
       (rsField w = 0x08 ∧ 2 ≤ (rtField w).toNat) ∨
       (0x10 ≤ (rsField w).toNat ∧ functField w ∉ [0x01, 0x02, 0x06, 0x08, 0x18]))) ∧
    (decodeWord w = .reserved .cop1 ↔ opField w = 0x11 ∧
      (let funct := (functField w).toNat
       rsField w ∈ [0x03, 0x07, 0x09, 0x0A, 0x0B, 0x0C, 0x0D, 0x0E, 0x0F, 0x12, 0x13] ∨ 0x16 ≤ (rsField w).toNat ∨
       (rsField w ∈ [0x10, 0x11] ∧ (funct ∈ [0x10, 0x14, 0x22, 0x23] ∨ (0x17 ≤ funct ∧ funct ≤ 0x1F) ∨
         (0x26 ≤ funct ∧ funct ≤ 0x2F))) ∨
       (rsField w = 0x10 ∧ funct = 0x20) ∨ (rsField w = 0x11 ∧ funct = 0x21) ∨
       (rsField w ∈ [0x14, 0x15] ∧ funct ∉ [0x20, 0x21])))

/-- R451, R472, R526: in user mode without `CU0`, an instruction and a whole step leave every system-coprocessor
register, the TLB, the timer and the control registers as they are and stay in user mode, or take an exception;
either way the read-only state and the configuration stay. For the step this is said from `beginStep`, where the
environment and the timer have acted: of all that state they touch `Cause` and the timer's deadline alone (R510,
R523). Marked by the spec as its own inference or decision, in part: R451, R472, R510, R526 (assumption 20). -/
def Obligations.UserInstructionsCannotReachSystemState : Prop :=
  (∀ (i : Instr) (s t : State), mode s = some .user → s.cp0.status.getLsbD 28 = false → exec i s = .next t →
    FixedSame s t ∧ ((∃ e, t = raise e s) ∨ (Cp0Same s t ∧ SystemRestSame s t ∧ mode t = some .user))) ∧
  (∀ s t : State, mode s = some .user → s.cp0.status.getLsbD 28 = false → step s = .next t →
    let b := beginStep s
    FixedSame s t ∧ { b.cp0 with cause := s.cp0.cause } = s.cp0 ∧
    { b with cp0 := s.cp0, timerDeadline := s.timerDeadline, cycles := s.cycles, inputs := s.inputs, mem := s.mem } = s ∧
    ((∃ e, t = retire (raise e b)) ∨ (Cp0Same b t ∧ SystemRestSame b t ∧ mode t = some .user)))

/-- R347, R106, R508: everything completes. Outside the reserved mode, and with a physical address space that holds
the unmapped windows, executing any word in any state gives a next state, and so does a step, fetch included.
Marked by the spec as its own inference or decision, in part: R106, R347, R508 (assumption 20). -/
def Obligations.EveryWordAndStepCompletes : Prop :=
  (∀ (w : Word32) (s : State), mode s ≠ none → 36 ≤ s.cfg.paBits → ∃ t, executeWord w s = .next t) ∧
  (∀ s : State, mode (beginStep s) ≠ none → 36 ≤ s.cfg.paBits → ∃ t, step s = .next t)

/-! ### Invariants -/

/-- R21, R23, R30 to R49, R85: every step keeps the invariant `Inv`. Marked by the spec as its own inference or
decision, in part: R21, R23, R30, R32, R35, R36, R37, R41, R42, R43, R47, R48, R49 (assumption 20). -/
def Obligations.EveryStepKeepsTheInvariant : Prop :=
  ∀ s t : State, Inv s → step s = .next t → Inv t

/-- The state after reset meets the invariant, in every configuration. -/
def Obligations.ResetMeetsTheInvariant : Prop := Inv State.reset ∧ ∀ c : Config, Inv (State.resetIn c)

/-- R8, R28, R45, R46, R60: no step changes the configuration, PRId, the read-only bits of Config, floating-point
control register 0 or the system-coprocessor condition bits. Marked by the spec as its own inference or decision,
in part: R8, R28, R60 (assumption 20). -/
def Obligations.ReadOnlyStateNeverChanges : Prop :=
  ∀ s t : State, step s = .next t → FixedSame s t

/-- R525: how the privilege mode changes. An exception enters kernel mode; `ERET` gives the mode of `KSU` when the
other level bit is clear; a move to Status gives the mode of the value written; reset is kernel mode; and there is
no other way: no other instruction changes the mode, the start and the end of a step keep it, and a step changes it
only by taking an exception or by running `ERET` or a move to Status. -/
def Obligations.ModeTransitions : Prop :=
  let modeOf := fun (status : Word32) => if status.getLsbD 1 || status.getLsbD 2 then some Mode.kernel
    else match status.toNat / 8 % 4 with
      | 0 => some .kernel | 1 => some .supervisor | 2 => some .user | _ => none
  mode State.reset = some .kernel ∧
  (∀ s : State, mode s = modeOf s.cp0.status ∧ ∀ e, mode (raise e s) = some .kernel) ∧
  (∀ s : State, cp0Usable s = true → ∃ t, exec .eret s = .next t ∧
    ((statusErl s = true ∧ statusExl s = false) ∨ statusErl s = false →
      mode t = modeOf (s.cp0.status &&& 0xFFFFFFF9#32))) ∧
  (∀ (s : State) (rt : Reg), cp0Usable s = true → ∃ t u, exec (.mtc0 rt 12) s = .next t ∧
    exec (.dmtc0 rt 12) s = .next u ∧ mode t = modeOf (lo32 (readGpr rt s)) ∧
    mode u = modeOf (lo32 (readGpr rt s))) ∧
  (∀ (i : Instr) (s t : State), exec i s = .next t → mode t ≠ mode s →
    (∃ e, t = raise e s) ∨ i = .eret ∨ (∃ rt, i = .mtc0 rt 12) ∨ (∃ rt, i = .dmtc0 rt 12)) ∧
  (∀ s : State, mode (beginStep s) = mode s ∧ mode (retire s) = mode s) ∧
  (∀ s t : State, step s = .next t → mode t ≠ mode s →
    (∃ e, t = retire (raise e (beginStep s))) ∨
    ∃ w i u, fetchWord (beginStep s) = .ok w ∧ decodeWord w = .instr i ∧ exec i (beginStep s) = .next u ∧
      t = retire u ∧ (i = .eret ∨ (∃ rt, i = .mtc0 rt 12) ∨ ∃ rt, i = .dmtc0 rt 12))

/-! ### Integer instructions -/

/-- R172, R174, R176, R178, R180, R182: the additions and subtractions that never trap, from exact integers. -/
def Obligations.WrappingAddAndSubtract : Prop :=
  ∀ (s : State) (rd rs rt : Reg) (imm : Imm16),
    let a := readGpr rs s
    let b := readGpr rt s
    WritesGpr (.addu rd rs rt) s rd (wrap32 (signedLow a + signedLow b)) ∧
    WritesGpr (.subu rd rs rt) s rd (wrap32 (signedLow a - signedLow b)) ∧
    WritesGpr (.daddu rd rs rt) s rd (wrap64 (a.toInt + b.toInt)) ∧
    WritesGpr (.dsubu rd rs rt) s rd (wrap64 (a.toInt - b.toInt)) ∧
    WritesGpr (.addiu rt rs imm) s rt (wrap32 (signedLow a + imm.toInt)) ∧
    WritesGpr (.daddiu rt rs imm) s rt (wrap64 (a.toInt + imm.toInt))

/-- R171, R173, R175, R177, R179, R181: the six that may trap. In range, or with `OVERFLOW_TRAPS` off, they write
the wrapped result; out of range with it on they raise Overflow, the destination unwritten. -/
def Obligations.TrappingAddAndSubtract : Prop :=
  ∀ (s : State) (rd rs rt : Reg) (imm : Imm16),
    let a := readGpr rs s
    let b := readGpr rt s
    let fits := fun (n : Nat) (x : Int) => -(2 : Int) ^ (n - 1) ≤ x ∧ x ≤ (2 : Int) ^ (n - 1) - 1
    let rule := fun (i : Instr) (r : Reg) (n : Nat) (x : Int) (v : Word) =>
      ((s.cfg.overflowTraps = false ∨ fits n x) → WritesGpr i s r v) ∧
      ((s.cfg.overflowTraps = true ∧ ¬ fits n x) → Raises i s .overflow)
    rule (.add rd rs rt) rd 32 (signedLow a + signedLow b) (wrap32 (signedLow a + signedLow b)) ∧
    rule (.sub rd rs rt) rd 32 (signedLow a - signedLow b) (wrap32 (signedLow a - signedLow b)) ∧
    rule (.addi rt rs imm) rt 32 (signedLow a + imm.toInt) (wrap32 (signedLow a + imm.toInt)) ∧
    rule (.dadd rd rs rt) rd 64 (a.toInt + b.toInt) (wrap64 (a.toInt + b.toInt)) ∧
    rule (.dsub rd rs rt) rd 64 (a.toInt - b.toInt) (wrap64 (a.toInt - b.toInt)) ∧
    rule (.daddi rt rs imm) rt 64 (a.toInt + imm.toInt) (wrap64 (a.toInt + imm.toInt))

/-- R183 to R194: the logical instructions, bit by bit, `LUI`, and the compares on all 64 bits (the immediate of
`SLTIU` is sign-extended, then compared as unsigned). -/
def Obligations.LogicalAndCompareResults : Prop :=
  ∀ (s : State) (rd rs rt : Reg) (imm : Imm16),
    let a := readGpr rs s
    let b := readGpr rt s
    let rule := fun (i : Instr) (r : Reg) (f : Nat → Bool) =>
      ∃ v : Word, (∀ k, k < 64 → v.getLsbD k = f k) ∧ WritesGpr i s r v
    rule (.and rd rs rt) rd (fun k => a.getLsbD k && b.getLsbD k) ∧
    rule (.or rd rs rt) rd (fun k => a.getLsbD k || b.getLsbD k) ∧
    rule (.xor rd rs rt) rd (fun k => a.getLsbD k ^^ b.getLsbD k) ∧
    rule (.nor rd rs rt) rd (fun k => !(a.getLsbD k || b.getLsbD k)) ∧
    rule (.andi rt rs imm) rt (fun k => decide (k < 16) && (a.getLsbD k && imm.getLsbD k)) ∧
    rule (.ori rt rs imm) rt (fun k => a.getLsbD k || (decide (k < 16) && imm.getLsbD k)) ∧
    rule (.xori rt rs imm) rt (fun k => a.getLsbD k ^^ (decide (k < 16) && imm.getLsbD k)) ∧
    WritesGpr (.lui rt imm) s rt (wrap32 (imm.toInt * 65536)) ∧
    WritesGpr (.slt rd rs rt) s rd (if a.toInt < b.toInt then 1 else 0) ∧
    WritesGpr (.sltu rd rs rt) s rd (if a.toNat < b.toNat then 1 else 0) ∧
    WritesGpr (.slti rt rs imm) s rt (if a.toInt < imm.toInt then 1 else 0) ∧
    WritesGpr (.sltiu rt rs imm) s rt (if a.toNat < (imm.signExtend 64).toNat then 1 else 0)

/-- R195 to R209: the shifts, as multiplication and division by powers of two: 32-bit ones of the low word, 64-bit
ones of the register; the variable ones take the amount modulo the width. -/
def Obligations.ShiftResults : Prop :=
  ∀ (s : State) (rd rt rs : Reg) (sa : Nat), sa < 32 →
    let x := readGpr rt s
    let v5 := (readGpr rs s).toNat % 32
    let v6 := (readGpr rs s).toNat % 64
    WritesGpr (.sll rd rt sa) s rd (wrap32 (unsignedLow x * 2 ^ sa)) ∧
    WritesGpr (.srl rd rt sa) s rd (wrap32 (unsignedLow x / 2 ^ sa)) ∧
    WritesGpr (.sra rd rt sa) s rd (wrap32 (signedLow x / 2 ^ sa)) ∧
    WritesGpr (.sllv rd rt rs) s rd (wrap32 (unsignedLow x * 2 ^ v5)) ∧
    WritesGpr (.srlv rd rt rs) s rd (wrap32 (unsignedLow x / 2 ^ v5)) ∧
    WritesGpr (.srav rd rt rs) s rd (wrap32 (signedLow x / 2 ^ v5)) ∧
    WritesGpr (.dsll rd rt sa) s rd (wrap64 (x.toNat * 2 ^ sa)) ∧
    WritesGpr (.dsrl rd rt sa) s rd (wrap64 (x.toNat / 2 ^ sa)) ∧
    WritesGpr (.dsra rd rt sa) s rd (wrap64 (x.toInt / 2 ^ sa)) ∧
    WritesGpr (.dsll32 rd rt sa) s rd (wrap64 (x.toNat * 2 ^ (sa + 32))) ∧
    WritesGpr (.dsrl32 rd rt sa) s rd (wrap64 (x.toNat / 2 ^ (sa + 32))) ∧
    WritesGpr (.dsra32 rd rt sa) s rd (wrap64 (x.toInt / 2 ^ (sa + 32))) ∧
    WritesGpr (.dsllv rd rt rs) s rd (wrap64 (x.toNat * 2 ^ v6)) ∧
    WritesGpr (.dsrlv rd rt rs) s rd (wrap64 (x.toNat / 2 ^ v6)) ∧
    WritesGpr (.dsrav rd rt rs) s rd (wrap64 (x.toInt / 2 ^ v6))

/-- R221 to R224: the products, exact: 64-bit halves spell the 128-bit product, 32-bit halves (each sign-extended)
the 64-bit one; and the moves of `hi` and `lo` (R229 to R232). -/
def Obligations.ProductsAndHiLoMoves : Prop :=
  ∀ (s : State) (rs rt : Reg),
    let a := readGpr rs s
    let b := readGpr rt s
    let halves32 := fun (p : Int) (hi lo : Word) => hi = wrap32 (p / 2 ^ 32) ∧ lo = wrap32 p
    (∃ hi lo, halves32 (signedLow a * signedLow b) hi lo ∧ WritesHiLo (.mult rs rt) s hi lo) ∧
    (∃ hi lo, halves32 (unsignedLow a * unsignedLow b) hi lo ∧ WritesHiLo (.multu rs rt) s hi lo) ∧
    (∃ hi lo, hi.toInt * 2 ^ 64 + lo.toNat = a.toInt * b.toInt ∧ WritesHiLo (.dmult rs rt) s hi lo) ∧
    (∃ hi lo : Word, hi.toNat * 2 ^ 64 + lo.toNat = a.toNat * b.toNat ∧ WritesHiLo (.dmultu rs rt) s hi lo) ∧
    WritesGpr (.mfhi rs) s rs s.hi ∧ WritesGpr (.mflo rs) s rs s.lo ∧
    WritesHiLo (.mthi rs) s a s.lo ∧ WritesHiLo (.mtlo rs) s s.hi a

/-- R225 to R228: the divisions. With a non-zero divisor `lo` and `hi` are the quotient rounded toward zero and the
remainder with the dividend's sign (wrapped to their width); with divisor 0 the instruction completes, `hi` and
`lo` are left open, and nothing else changes. Marked by the spec as its own inference or decision, in part: R225,
R227 (assumption 20). -/
def Obligations.Divisions : Prop :=
  ∀ (s : State) (rs rt : Reg),
    let a := readGpr rs s
    let b := readGpr rt s
    let signedRule := fun (n d q r : Int) =>
      n = q * d + r ∧ |r| < |d| ∧ (r = 0 ∨ (0 < r ↔ 0 < n))
    (signedLow b ≠ 0 → ∃ q r : Int, signedRule (signedLow a) (signedLow b) q r ∧
      WritesHiLo (.div rs rt) s (wrap32 r) (wrap32 q)) ∧
    (unsignedLow b ≠ 0 → ∃ q r : Nat, unsignedLow a = q * unsignedLow b + r ∧ r < unsignedLow b ∧
      WritesHiLo (.divu rs rt) s (wrap32 r) (wrap32 q)) ∧
    (b ≠ 0 → ∃ q r : Int, signedRule a.toInt b.toInt q r ∧ WritesHiLo (.ddiv rs rt) s (wrap64 r) (wrap64 q)) ∧
    (b ≠ 0 → ∃ q r : Nat, a.toNat = q * b.toNat + r ∧ r < b.toNat ∧
      WritesHiLo (.ddivu rs rt) s (wrap64 r) (wrap64 q)) ∧
    (signedLow b = 0 → ∃ hi lo, WritesHiLo (.div rs rt) s hi lo) ∧
    (unsignedLow b = 0 → ∃ hi lo, WritesHiLo (.divu rs rt) s hi lo) ∧
    (b = 0 → ∃ hi lo, WritesHiLo (.ddiv rs rt) s hi lo) ∧
    (b = 0 → ∃ hi lo, WritesHiLo (.ddivu rs rt) s hi lo)

/-! ### Control transfer -/

/-- R246 to R249: the jumps: target, and link `pc + 8` in register 31 or `rd`; the target of `JALR` is read first.
Marked by the spec as its own inference or decision, in part: R249 (assumption 20). -/
def Obligations.Jumps : Prop :=
  ∀ (s : State) (target : BitVec 26) (rd rs : Reg),
    let region := (s.pc + 4).toNat / 2 ^ 28 * 2 ^ 28 + target.toNat * 4
    Branches (.j target) s (BitVec.ofNat 64 region) none ∧
    Branches (.jal target) s (BitVec.ofNat 64 region) (some (31, s.pc + 8)) ∧
    Branches (.jr rs) s (readGpr rs s) none ∧
    Branches (.jalr rd rs) s (readGpr rs s) (some (rd, s.pc + 8))

/-- R250 to R265: the conditional branches. Taken: the target is `pc + 4` plus four times the signed displacement.
Not taken: nothing, or for a likely form the slot is nullified. The linking forms write `pc + 8` to register 31
either way, from the condition as it was before. The coprocessor branches (R368 to R371, R466, R467) do the same on
a condition bit, with the coprocessor usable. Marked by the spec as its own inference or decision, in part: R262,
R466 (assumption 20). -/
def Obligations.ConditionalBranches : Prop :=
  ∀ (s : State) (rs rt : Reg) (cc : Nat) (offset : Imm16), cc < 8 →
    let target := s.pc + 4 + BitVec.ofInt 64 (offset.toInt * 4)
    let x := (readGpr rs s).toInt
    let rule := fun (i : Instr) (c : Prop) (likely : Bool) (link : Option (Reg × Word)) =>
      (c → Branches i s target link) ∧ (¬ c → FallsThrough i s likely link)
    let link := some ((31 : Reg), s.pc + 8)
    rule (.beq rs rt offset) (readGpr rs s = readGpr rt s) false none ∧
    rule (.bne rs rt offset) (readGpr rs s ≠ readGpr rt s) false none ∧
    rule (.blez rs offset) (x ≤ 0) false none ∧ rule (.bgtz rs offset) (0 < x) false none ∧
    rule (.bltz rs offset) (x < 0) false none ∧ rule (.bgez rs offset) (0 ≤ x) false none ∧
    rule (.beql rs rt offset) (readGpr rs s = readGpr rt s) true none ∧
    rule (.bnel rs rt offset) (readGpr rs s ≠ readGpr rt s) true none ∧
    rule (.blezl rs offset) (x ≤ 0) true none ∧ rule (.bgtzl rs offset) (0 < x) true none ∧
    rule (.bltzl rs offset) (x < 0) true none ∧ rule (.bgezl rs offset) (0 ≤ x) true none ∧
    rule (.bltzal rs offset) (x < 0) false link ∧ rule (.bgezal rs offset) (0 ≤ x) false link ∧
    rule (.bltzall rs offset) (x < 0) true link ∧ rule (.bgezall rs offset) (0 ≤ x) true link ∧
    (s.cp0.status.getLsbD 29 = true →
      rule (.bc1f cc offset) (s.fcc.getLsbD cc = false) false none ∧
      rule (.bc1t cc offset) (s.fcc.getLsbD cc = true) false none ∧
      rule (.bc1fl cc offset) (s.fcc.getLsbD cc = false) true none ∧
      rule (.bc1tl cc offset) (s.fcc.getLsbD cc = true) true none) ∧
    (cp0Usable s = true →
      rule (.bc0f offset) (s.cc0.getLsbD 0 = false) false none ∧
      rule (.bc0t offset) (s.cc0.getLsbD 0 = true) false none)

/-- R330 to R342: the conditional traps: the exception when the condition holds, nothing when it does not. Marked
by the spec as its own inference or decision, in part: R330 (assumption 20). -/
def Obligations.ConditionalTraps : Prop :=
  ∀ (s : State) (rs rt : Reg) (code : BitVec 10) (imm : Imm16),
    let a := readGpr rs s
    let b := readGpr rt s
    let rule := fun (i : Instr) (c : Prop) => (c → Raises i s .trap) ∧ (¬ c → DoesNothing i s)
    rule (.tge rs rt code) (b.toInt ≤ a.toInt) ∧ rule (.tgeu rs rt code) (b.toNat ≤ a.toNat) ∧
    rule (.tlt rs rt code) (a.toInt < b.toInt) ∧ rule (.tltu rs rt code) (a.toNat < b.toNat) ∧
    rule (.teq rs rt code) (a = b) ∧ rule (.tne rs rt code) (a ≠ b) ∧
    rule (.tgei rs imm) (imm.toInt ≤ a.toInt) ∧ rule (.tgeiu rs imm) ((imm.signExtend 64).toNat ≤ a.toNat) ∧
    rule (.tlti rs imm) (a.toInt < imm.toInt) ∧ rule (.tltiu rs imm) (a.toNat < (imm.signExtend 64).toNat) ∧
    rule (.teqi rs imm) (a.toInt = imm.toInt) ∧ rule (.tnei rs imm) (a.toInt ≠ imm.toInt)

/-- R343, R348, R344, R345, R346: the system call and the breakpoint, the two no-ops, and the defined fault of the
coprocessor 2 opcodes. Marked by the spec as its own inference or decision, in part: R343, R344, R345, R346
(assumption 20). -/
def Obligations.SystemCallsNoOpsAndCoprocessor2 : Prop :=
  ∀ (s : State) (code : BitVec 20) (stype op : BitVec 5) (cofun : BitVec 26) (rt base : Reg) (offset : Imm16),
    let fault2 : Exc := if s.cp0.status.getLsbD 30 then .reservedInstruction else .coprocessorUnusable 2
    Raises (.syscall code) s .syscall ∧ Raises (.brk code) s .breakpoint ∧
    DoesNothing (.sync stype) s ∧
    (cp0Usable s = true → DoesNothing (.cache op offset base) s) ∧
    Raises (.cop2 cofun) s fault2 ∧ Raises (.lwc2 rt offset base) s fault2 ∧
    Raises (.ldc2 rt offset base) s fault2 ∧ Raises (.swc2 rt offset base) s fault2 ∧
    Raises (.sdc2 rt offset base) s fault2

/-! ### Loads and stores -/

/-- R280 to R287: the aligned loads: the number that the bytes spell, sign- or zero-extended. -/
def Obligations.AlignedLoads : Prop :=
  ∀ (s : State) (rt base : Reg) (offset : Imm16) (pa : Nat),
    let va := readGpr base s + BitVec.ofInt 64 offset.toInt
    let rule := fun (i : Instr) (n : Nat) (extend : Nat → Word) =>
      LoadReady s va n pa → WritesGpr i s rt (extend (memoryValue s pa n))
    let signedBytes := fun (n : Nat) (x : Nat) => BitVec.ofInt 64 ((x : Int).bmod (256 ^ n))
    rule (.lb rt offset base) 1 (signedBytes 1) ∧ rule (.lbu rt offset base) 1 (BitVec.ofNat 64) ∧
    rule (.lh rt offset base) 2 (signedBytes 2) ∧ rule (.lhu rt offset base) 2 (BitVec.ofNat 64) ∧
    rule (.lw rt offset base) 4 (signedBytes 4) ∧ rule (.lwu rt offset base) 4 (BitVec.ofNat 64) ∧
    rule (.ld rt offset base) 8 (BitVec.ofNat 64)

/-- R280, R288 to R291: the aligned stores: byte `k` of the register to byte lane `k`, and no other byte of memory.
-/
def Obligations.AlignedStores : Prop :=
  ∀ (s : State) (rt base : Reg) (offset : Imm16) (pa : Nat),
    let va := readGpr base s + BitVec.ofInt 64 offset.toInt
    let rule := fun (i : Instr) (n : Nat) =>
      StoreReady s va n pa → StoresLanes i s pa n (fun k => (readGpr rt s).extractLsb' (8 * k) 8) (fun _ => True)
    rule (.sb rt offset base) 1 ∧ rule (.sh rt offset base) 2 ∧ rule (.sw rt offset base) 4 ∧
    rule (.sd rt offset base) 8

/-- R88, R90, R91, R118, R280, R508, R509: an access that fails raises its exception and does nothing else: a
misaligned one the address error of its kind with the full address, one whose translation fails the exception of
the translation, one that the bus answers with `fault` a bus error (for a store-conditional, at its read, or at its
write when the values were equal, R304). The partial-word forms access the aligned address. The same for a fetch;
in the reserved mode, which has no segments (R106), the model refuses it. Marked by the spec as its own inference
or decision, in part: R106, R118, R304, R508 (assumption 20). -/
def Obligations.FailedAccessesRaise : Prop :=
  (∀ (s : State) (rt base : Reg) (offset : Imm16),
    let va := readGpr base s + BitVec.ofInt 64 offset.toInt
    let fails := fun (intent : Intent) (write : Bool) (n : Nat) (a : Word) (i : Instr) =>
      (a.toNat % n = 0 → ∀ e, translate s a intent = .raised e → Raises i s e) ∧
      (a.toNat % n = 0 → ∀ t, translate s a intent = .ok t → busFails s.cfg write t.1 n = true → Raises i s .dbe)
    let loads := fun (n : Nat) (i : Instr) => (va.toNat % n ≠ 0 → Raises i s (.adel va)) ∧ fails .read false n va i
    let stores := fun (n : Nat) (i : Instr) => (va.toNat % n ≠ 0 → Raises i s (.ades va)) ∧
      fails .write true n va i
    loads 1 (.lb rt offset base) ∧ loads 1 (.lbu rt offset base) ∧
    loads 2 (.lh rt offset base) ∧ loads 2 (.lhu rt offset base) ∧ loads 4 (.lw rt offset base) ∧
    loads 4 (.lwu rt offset base) ∧ loads 8 (.ld rt offset base) ∧ loads 4 (.ll rt offset base) ∧
    loads 8 (.lld rt offset base) ∧ stores 1 (.sb rt offset base) ∧ stores 2 (.sh rt offset base) ∧
    stores 4 (.sw rt offset base) ∧ stores 8 (.sd rt offset base) ∧
    (∀ i n, (i = .sc rt offset base ∧ n = 4) ∨ (i = .scd rt offset base ∧ n = 8) →
      (va.toNat % n ≠ 0 → Raises i s (.ades va)) ∧ fails .write false n va i) ∧
    (∀ i n latch, (i = .sc rt offset base ∧ n = 4 ∧ latch = s.llValue.toNat) ∨
      (i = .scd rt offset base ∧ n = 8 ∧ latch = s.lldValue.toNat) → va.toNat % n = 0 →
      ∀ t, translate s va .write = .ok t → busFails s.cfg false t.1 n = false → memoryValue s t.1 n = latch →
        busFails s.cfg true t.1 n = true → Raises i s .dbe) ∧
    fails .read false 4 (va &&& ~~~3#64) (.lwl rt offset base) ∧
    fails .read false 4 (va &&& ~~~3#64) (.lwr rt offset base) ∧
    fails .read false 8 (va &&& ~~~7#64) (.ldl rt offset base) ∧
    fails .read false 8 (va &&& ~~~7#64) (.ldr rt offset base) ∧
    fails .write true 4 (va &&& ~~~3#64) (.swl rt offset base) ∧
    fails .write true 4 (va &&& ~~~3#64) (.swr rt offset base) ∧
    fails .write true 8 (va &&& ~~~7#64) (.sdl rt offset base) ∧
    fails .write true 8 (va &&& ~~~7#64) (.sdr rt offset base) ∧
    (s.cp0.status.getLsbD 29 = true →
      loads 4 (.lwc1 rt offset base) ∧ loads 8 (.ldc1 rt offset base) ∧ stores 4 (.swc1 rt offset base) ∧
      stores 8 (.sdc1 rt offset base))) ∧
  (∀ s b : State, b = beginStep s → interruptPending b = false →
    (b.pc.toNat % 4 ≠ 0 → step s = .next (retire (raise (.adel b.pc) b))) ∧
    (b.pc.toNat % 4 = 0 → ∀ e, translate b b.pc .fetch = .raised e → step s = .next (retire (raise e b))) ∧
    (b.pc.toNat % 4 = 0 → ∀ t, translate b b.pc .fetch = .ok t → busFails b.cfg false t.1 4 = true →
      step s = .next (retire (raise .ibe b))) ∧
    (b.pc.toNat % 4 = 0 → mode b = none → step s = .refused .reservedMode))

/-- R292 to R295, R298, R299, R307: the partial-word loads, byte by byte. `position n` is the number of low
register bytes that a left form keeps (R293: it depends on the byte order, and in user mode on `RE`): a left form
moves the low memory bytes up by it, a right form moves the high memory bytes down to the register bytes 0 to
`position n`; the other register bytes are kept, and the word forms sign-extend. Marked by the spec as its own
inference or decision, in part: R292, R293, R294, R295, R307 (assumption 20). -/
def Obligations.PartialLoads : Prop :=
  ∀ (s : State) (rt base : Reg) (offset : Imm16) (pa : Nat),
    let va := readGpr base s + BitVec.ofInt 64 offset.toInt
    let x := readGpr rt s
    let flips := s.cfg.bigEndian == (s.cp0.status.getLsbD 25 && decide (mode s = some .user))
    let position := fun n : Nat => if flips then n - 1 - va.toNat % n else va.toNat % n
    let memByte := fun (n k : Nat) => memoryValue s pa n / 256 ^ k % 256
    let regByte := fun (v : Word) (k : Nat) => v.toNat / 256 ^ k % 256
    let leftRule := fun (n : Nat) (v : Word) => ∀ k, k < n →
      regByte v k = if position n ≤ k then memByte n (k - position n) else regByte x k
    let rightRule := fun (n : Nat) (v : Word) => ∀ k, k < n →
      regByte v k = if k ≤ position n then memByte n (k + (n - 1 - position n)) else regByte x k
    (LoadReady s (va &&& ~~~3#64) 4 pa →
      (∃ v, leftRule 4 v ∧ v = wrap32 (signedLow v) ∧ WritesGpr (.lwl rt offset base) s rt v) ∧
      (∃ v, rightRule 4 v ∧ v = wrap32 (signedLow v) ∧ WritesGpr (.lwr rt offset base) s rt v)) ∧
    (LoadReady s (va &&& ~~~7#64) 8 pa →
      (∃ v, leftRule 8 v ∧ WritesGpr (.ldl rt offset base) s rt v) ∧
      (∃ v, rightRule 8 v ∧ WritesGpr (.ldr rt offset base) s rt v))

/-- R292, R293, R296, R297, R300, R301, R307: the partial-word stores, byte by byte: a left form stores the
register bytes from `position n` on to the low lanes, a right form stores the register bytes 0 to `position n` to
the high lanes; no other byte of memory changes. Marked by the spec as its own inference or decision, in part:
R292, R293, R307 (assumption 20). -/
def Obligations.PartialStores : Prop :=
  ∀ (s : State) (rt base : Reg) (offset : Imm16) (pa : Nat),
    let va := readGpr base s + BitVec.ofInt 64 offset.toInt
    let x := readGpr rt s
    let flips := s.cfg.bigEndian == (s.cp0.status.getLsbD 25 && decide (mode s = some .user))
    let position := fun n : Nat => if flips then n - 1 - va.toNat % n else va.toNat % n
    let left := fun (i : Instr) (n : Nat) =>
      StoresLanes i s pa n (fun k => x.extractLsb' (8 * (k + position n)) 8) (fun k => k + position n < n)
    let right := fun (i : Instr) (n : Nat) =>
      StoresLanes i s pa n (fun k => x.extractLsb' (8 * (k - (n - 1 - position n))) 8)
        (fun k => n - 1 - position n ≤ k)
    (StoreReady s (va &&& ~~~3#64) 4 pa → left (.swl rt offset base) 4 ∧ right (.swr rt offset base) 4) ∧
    (StoreReady s (va &&& ~~~7#64) 8 pa → left (.sdl rt offset base) 8 ∧ right (.sdr rt offset base) 8)

/-- R302, R303: the linked loads: the register and the latch of their width get the loaded value, the other latch
and everything else stay. R304 to R306: the store-conditionals. When the value in memory equals the latch of their
width the old value of the register is stored and the register gets 1; when it does not, memory stays and the
register gets 0, whether or not the bus would take the write. Marked by the spec as its own inference or decision,
in part: R304, R306 (assumption 20). -/
def Obligations.LinkedLoadsAndConditionalStores : Prop :=
  ∀ (s : State) (rt base : Reg) (offset : Imm16) (pa : Nat),
    let va := readGpr base s + BitVec.ofInt 64 offset.toInt
    let loadFrame := fun t : State => GprsSameExcept [rt] s t ∧ FlowSame s t ∧ HiLoSame s t ∧ FprsSame s t ∧
      FpControlSame s t ∧ Cp0Same s t ∧ SystemRestSame s t ∧ MemorySame s t ∧ OutsideSame s t
    let storeFrame := fun t : State => GprsSameExcept [rt] s t ∧ FlowSame s t ∧ HiLoSame s t ∧ FprsSame s t ∧
      FpControlSame s t ∧ Cp0Same s t ∧ SystemRestSame s t ∧ LatchesSame s t ∧ OutsideSame s t
    let rule := fun (i : Instr) (n latch : Nat) =>
      (StoreReady s va n pa → busFails s.cfg false pa n = false → memoryValue s pa n = latch →
        ∃ t, exec i s = .next t ∧ storeFrame t ∧ (rt ≠ 0 → readGpr rt t = 1) ∧
          (∀ k, k < n → t.mem.readByte (laneAddr s.cfg.bigEndian pa n k) =
            (readGpr rt s).extractLsb' (8 * k) 8) ∧
          MemorySameExcept (AccessBytes pa n) s t) ∧
      (va.toNat % n = 0 → (∃ a : Attr, translate s va .write = .ok (pa, a)) → busFails s.cfg false pa n = false →
        memoryValue s pa n ≠ latch →
        ∃ t, exec i s = .next t ∧ storeFrame t ∧ (rt ≠ 0 → readGpr rt t = 0) ∧ MemorySame s t)
    (LoadReady s va 4 pa → ∃ t, exec (.ll rt offset base) s = .next t ∧
      t.llValue.toNat = memoryValue s pa 4 ∧ t.lldValue = s.lldValue ∧
      (rt ≠ 0 → readGpr rt t = BitVec.ofInt 64 t.llValue.toInt) ∧ loadFrame t) ∧
    (LoadReady s va 8 pa → ∃ t, exec (.lld rt offset base) s = .next t ∧
      t.lldValue.toNat = memoryValue s pa 8 ∧ t.llValue = s.llValue ∧ (rt ≠ 0 → readGpr rt t = t.lldValue) ∧
      loadFrame t) ∧
    rule (.sc rt offset base) 4 s.llValue.toNat ∧ rule (.scd rt offset base) 8 s.lldValue.toNat

/-- R372 to R375: the floating-point loads and stores, with the unit usable. -/
def Obligations.FloatingLoadsAndStores : Prop :=
  ∀ (s : State) (ft base : Reg) (offset : Imm16) (pa : Nat), s.cp0.status.getLsbD 29 = true →
    let va := readGpr base s + BitVec.ofInt 64 offset.toInt
    (LoadReady s va 4 pa → WritesFpr32 (.lwc1 ft offset base) s ft (fun v => v.toNat = memoryValue s pa 4)) ∧
    (LoadReady s va 8 pa → WritesFpr64 (.ldc1 ft offset base) s ft (fun v => v.toNat = memoryValue s pa 8)) ∧
    (StoreReady s va 4 pa → StoresLanes (.swc1 ft offset base) s pa 4
      (fun k => (readFpr32 ft s).extractLsb' (8 * k) 8) (fun _ => True)) ∧
    (StoreReady s va 8 pa → StoresLanes (.sdc1 ft offset base) s pa 8
      (fun k => (readFpr64 ft s).extractLsb' (8 * k) 8) (fun _ => True))

/-! ### System coprocessor -/

/-- R452, R453, R456, R457, with R30, R32: the moves from system registers: the cell, or its low half
sign-extended; Random reads within its range. A control register reads back what was written to it and no other
changes. Marked by the spec as its own inference or decision, in part: R30, R32, R452, R453, R456 (assumption 20).
-/
def Obligations.MovesFromSystemRegisters : Prop :=
  ∀ (s : State) (rt rd : Reg), cp0Usable s = true →
    (rd ≠ 1 → WritesGpr (.mfc0 rt rd) s rt (BitVec.ofInt 64 (lo32 (cp0Cell rd s)).toInt) ∧
      WritesGpr (.dmfc0 rt rd) s rt (cp0Cell rd s)) ∧
    (∃ v : Word, v.toNat ≤ 47 ∧ (wired s ≤ 47 → wired s ≤ v.toNat) ∧
      WritesGpr (.mfc0 rt 1) s rt v ∧ WritesGpr (.dmfc0 rt 1) s rt v) ∧
    WritesGpr (.cfc0 rt rd) s rt (BitVec.ofInt 64 (s.ccr0[rd.toNat]'(reg_lt rd)).toInt) ∧
    (∃ t, exec (.ctc0 rt rd) s = .next t ∧ t.ccr0[rd.toNat]'(reg_lt rd) = lo32 (readGpr rt s) ∧
      (∀ k (h : k < 32), k ≠ rd.toNat → t.ccr0[k] = s.ccr0[k]) ∧ t.cc0 = s.cc0 ∧ t.tlb = s.tlb ∧
      t.countZeroTime = s.countZeroTime ∧ t.compareArmed = s.compareArmed ∧ t.timerDeadline = s.timerDeadline ∧
      GprsSameExcept [] s t ∧ FlowSame s t ∧ HiLoSame s t ∧ FprsSame s t ∧ FpControlSame s t ∧ Cp0Same s t ∧
      LatchesSame s t ∧ MemorySame s t ∧ OutsideSame s t)

/-- R30, R454, R455, R458: the moves to system registers write exactly the writable bits of the register they name
(from the sign-extended low word, or from all 64 bits) and no other register; Count and Compare, whose writes do
more, are in another statement. The premise is part of the machine's invariant. Marked by the spec as its own
inference or decision, in part: R30, R454, R458 (assumption 20). -/
def Obligations.MovesToSystemRegisters : Prop :=
  ∀ (s : State) (rt rd : Reg), cp0Usable s = true → ReservedBitsZero s.cp0 → rd ≠ 9 → rd ≠ 11 →
    let writable : Word := match rd.toNat with
      | 0 => 0x8000003F | 2 | 3 => 0x3FFFFFFF | 4 => 0xFFFFFFFFFF800000 | 5 => 0x01FFE000 | 6 => 0x3F
      | 10 => 0xC00000FFFFFFE0FF | 13 => 0x300 | 16 => 0x3F | 20 => 0xFFFFFFFE00000000
      | 12 | 17 | 18 | 19 | 26 | 28 | 29 => 0xFFFFFFFF
      | 1 | 8 | 15 | 27 => 0
      | _ => 0xFFFFFFFFFFFFFFFF
    let rule := fun (i : Instr) (v : Word) => ∃ t, exec i s = .next t ∧
      cp0Cell rd t = (cp0Cell rd s &&& ~~~writable) ||| (v &&& writable) ∧
      (∀ k, k ≠ rd → cp0Cell k t = cp0Cell k s) ∧
      GprsSameExcept [] s t ∧ FlowSame s t ∧ HiLoSame s t ∧ FprsSame s t ∧ FpControlSame s t ∧
      SystemRestSame s t ∧ LatchesSame s t ∧ MemorySame s t ∧ OutsideSame s t
    rule (.mtc0 rt rd) (BitVec.ofInt 64 (signedLow (readGpr rt s))) ∧ rule (.dmtc0 rt rd) (readGpr rt s)

/-- R460 to R463: the TLB writes. `TLBWI` stores the image of the registers into the entry that Index names, or
does nothing for an index above 47; `TLBWR` stores it into some entry that is not wired. No other entry and nothing
else changes (but which draw comes next). Marked by the spec as its own inference or decision, in part: R460, R461,
R462, R463 (assumption 20). -/
def Obligations.TlbWrites : Prop :=
  ∀ s : State, cp0Usable s = true →
    let frame := fun t : State => GprsSameExcept [] s t ∧ FlowSame s t ∧ HiLoSame s t ∧ FprsSame s t ∧
      FpControlSame s t ∧ Cp0Same s t ∧ t.ccr0 = s.ccr0 ∧ t.cc0 = s.cc0 ∧ t.countZeroTime = s.countZeroTime ∧
      t.compareArmed = s.compareArmed ∧ t.timerDeadline = s.timerDeadline ∧ LatchesSame s t ∧ MemorySame s t ∧
      OutsideSame s t
    let image := fun e : TlbEntry => e.mask = s.cp0.pageMask.extractLsb' 13 12 ∧
      e.r = s.cp0.entryHi.extractLsb' 62 2 ∧ e.vpn2 = s.cp0.entryHi.extractLsb' 13 27 ∧
      e.asid = s.cp0.entryHi.extractLsb' 0 8 ∧ e.lo0 = s.cp0.entryLo0.extractLsb' 1 29 ∧
      e.lo1 = s.cp0.entryLo1.extractLsb' 1 29 ∧
      e.g = (s.cp0.entryLo0.getLsbD 0 && s.cp0.entryLo1.getLsbD 0)
    let stored := fun (i : Nat) (t : State) => ∃ h : i < 48, image (t.tlb[i]'h) ∧
      ∀ k (hk : k < 48), k ≠ i → t.tlb[k]'hk = s.tlb[k]'hk
    let index := s.cp0.index.toNat % 64
    (∃ t, exec .tlbwi s = .next t ∧ frame t ∧ (index ≤ 47 → stored index t) ∧ (48 ≤ index → t.tlb = s.tlb)) ∧
    (∃ t i, exec .tlbwr s = .next t ∧ frame t ∧ stored i t ∧ (wired s ≤ 47 → wired s ≤ i))

/-- R460, R461, R465: `TLBR` loads PageMask, EntryHi and both EntryLo from the entry that Index names, every
reserved bit 0 and the entry's global bit in both EntryLo, or does nothing for an index above 47. Hence writing an
entry and reading it back at the same index, at most 47, gives PageMask, EntryHi and the page fields of EntryLo0
and EntryLo1 as they were, and in both global bits the AND of the two. The premise of the round trip is part of the
invariant. Marked by the spec as its own inference or decision, in part: R460, R461, R465 (assumption 20). -/
def Obligations.TlbReadAndRoundTrip : Prop :=
  (∀ s : State, cp0Usable s = true → ∃ t, exec .tlbr s = .next t ∧
    (∀ h : s.cp0.index.toNat % 64 < 48,
      let e := s.tlb[s.cp0.index.toNat % 64]'h
      t.cp0.pageMask.extractLsb' 13 12 = e.mask ∧ t.cp0.pageMask &&& 0xFE001FFF#32 = 0 ∧
      t.cp0.entryHi.extractLsb' 62 2 = e.r ∧ t.cp0.entryHi.extractLsb' 13 27 = e.vpn2 ∧
      t.cp0.entryHi.extractLsb' 0 8 = e.asid ∧ t.cp0.entryHi &&& 0x3FFFFF0000001F00#64 = 0 ∧
      t.cp0.entryLo0.extractLsb' 1 29 = e.lo0 ∧ t.cp0.entryLo1.extractLsb' 1 29 = e.lo1 ∧
      t.cp0.entryLo0.getLsbD 0 = e.g ∧ t.cp0.entryLo1.getLsbD 0 = e.g ∧
      t.cp0.entryLo0.extractLsb' 30 34 = 0 ∧ t.cp0.entryLo1.extractLsb' 30 34 = 0) ∧
    (48 ≤ s.cp0.index.toNat % 64 → t = s) ∧
    { t.cp0 with pageMask := s.cp0.pageMask, entryHi := s.cp0.entryHi, entryLo0 := s.cp0.entryLo0,
                 entryLo1 := s.cp0.entryLo1 } = s.cp0 ∧
    GprsSameExcept [] s t ∧ FlowSame s t ∧ HiLoSame s t ∧ FprsSame s t ∧ FpControlSame s t ∧ SystemRestSame s t ∧
    LatchesSame s t ∧ MemorySame s t ∧ OutsideSame s t) ∧
  (∀ s t : State, cp0Usable s = true → ReservedBitsZero s.cp0 → exec .tlbwi s = .next t →
    s.cp0.index.toNat % 64 ≤ 47 → ∃ u, exec .tlbr t = .next u ∧
      u.cp0.pageMask = s.cp0.pageMask ∧ u.cp0.entryHi = s.cp0.entryHi ∧
      u.cp0.entryLo0.extractLsb' 1 29 = s.cp0.entryLo0.extractLsb' 1 29 ∧
      u.cp0.entryLo1.extractLsb' 1 29 = s.cp0.entryLo1.extractLsb' 1 29 ∧
      u.cp0.entryLo0.getLsbD 0 = (s.cp0.entryLo0.getLsbD 0 && s.cp0.entryLo1.getLsbD 0) ∧
      u.cp0.entryLo1.getLsbD 0 = (s.cp0.entryLo0.getLsbD 0 && s.cp0.entryLo1.getLsbD 0))

/-- R464: the probe: Index gets the number of the first entry whose region and masked VPN2 equal those of EntryHi
and which is global or of EntryHi's address space, or the sentinel when there is none; nothing else changes. Marked
by the spec as its own inference or decision, in part: R464 (assumption 20). -/
def Obligations.TlbProbe : Prop :=
  ∀ s : State, cp0Usable s = true → ∃ t, exec .tlbp s = .next t ∧
    let hi := s.cp0.entryHi
    let matching := fun e : TlbEntry => e.r = hi.extractLsb' 62 2 ∧
      e.vpn2 &&& ~~~(e.mask.setWidth 27) = hi.extractLsb' 13 27 &&& ~~~(e.mask.setWidth 27) ∧
      (e.g = true ∨ e.asid = hi.extractLsb' 0 8)
    (∀ i (h : i < 48), matching (s.tlb[i]'h) → (∀ k (hk : k < i), ¬ matching (s.tlb[k]'(by omega))) →
      t.cp0.index = BitVec.ofNat 32 i) ∧
    ((∀ i (h : i < 48), ¬ matching (s.tlb[i]'h)) → t.cp0.index = 0x80000000#32) ∧
    { t.cp0 with index := s.cp0.index } = s.cp0 ∧ GprsSameExcept [] s t ∧ FlowSame s t ∧ HiLoSame s t ∧
    FprsSame s t ∧ FpControlSame s t ∧ SystemRestSame s t ∧ LatchesSame s t ∧ MemorySame s t ∧ OutsideSame s t

/-! ### Floating point -/

/-- R362 to R367, with R58, R59, R62: the moves between general and floating-point registers, and to and from the
control registers, with the unit usable. Register 0 is read-only; register 31 packs and unpacks the condition bits
and selects the rounding mode. Marked by the spec as its own inference or decision, in part: R58, R59, R62, R367
(assumption 20). -/
def Obligations.FloatingMoves : Prop :=
  ∀ (s : State) (rt fs : Reg), s.cp0.status.getLsbD 29 = true →
    let v := lo32 (readGpr rt s)
    WritesGpr (.mfc1 rt fs) s rt (BitVec.ofInt 64 (readFpr32 fs s).toInt) ∧
    WritesGpr (.dmfc1 rt fs) s rt (readFpr64 fs s) ∧
    WritesFpr32 (.mtc1 rt fs) s fs (fun w => w = v) ∧
    WritesFpr64 (.dmtc1 rt fs) s fs (fun w => w = readGpr rt s) ∧
    (∃ c : Word32, WritesGpr (.cfc1 rt fs) s rt (BitVec.ofInt 64 c.toInt) ∧
      (fs ≠ 31 → c = s.ccr1[fs.toNat]'(reg_lt fs)) ∧
      (fs = 31 → ∀ k, k < 32 → c.getLsbD k =
        if k = 23 then s.fcc.getLsbD 0 else if 25 ≤ k then s.fcc.getLsbD (k - 24) else s.ccr1[31].getLsbD k)) ∧
    (∃ t, exec (.ctc1 rt fs) s = .next t ∧ OnlyFpControl s t ∧
      (fs = 0 → t.ccr1 = s.ccr1 ∧ t.fcc = s.fcc) ∧
      (fs ≠ 0 → t.ccr1[fs.toNat]'(reg_lt fs) = v ∧ ∀ k (h : k < 32), k ≠ fs.toNat → t.ccr1[k] = s.ccr1[k]) ∧
      (fs ≠ 31 → t.fcc = s.fcc) ∧
      (fs = 31 → t.fcc.getLsbD 0 = v.getLsbD 23 ∧ (∀ k, 1 ≤ k → k < 8 → t.fcc.getLsbD k = v.getLsbD (24 + k)) ∧
        roundingMode t = (if v.toNat % 4 = 0 then .nearestEven else if v.toNat % 4 = 1 then .towardZero
          else if v.toNat % 4 = 2 then .up else .down)))

/-- R376 (b), (c), R57 to R59: with `FR = 0` the two words moved to an even register and the odd one above it are
the halves of the doubleword in the even one; changing `FR` changes no cell. Marked by the spec as its own
inference or decision, in part: R57, R58, R59, R376 (assumption 20). -/
def Obligations.FloatingRegisterPairs : Prop :=
  ∀ (s : State) (f : Reg) (a b : Word32) (d : Word), f.getLsbD 0 = false →
    (s.cp0.status.getLsbD 26 = false →
      readFpr64 f (writeFpr32 (f + 1) b (writeFpr32 f a s)) = b ++ a ∧
      readFpr32 (f + 1) (writeFpr64 f d s) = d.extractLsb' 32 32 ∧ readFpr32 f (writeFpr64 f d s) = d.setWidth 32 ∧
      readFpr64 (f + 1) s = readFpr64 f s) ∧
    (s.cp0.status.getLsbD 26 = true → readFpr64 (f + 1) (writeFpr64 f d s) = readFpr64 (f + 1) s ∧
      readFpr32 f (writeFpr64 f d s) = d.setWidth 32) ∧
    (∀ v : Word, (cp0Write 12 v s).fpr = s.fpr)

/-- R393 to R397, R418, R419: the arithmetic instructions, with the unit usable: they complete in every
configuration and change nothing but the destination; with the default numerics the destination gets the result
that `FpNumerics` defines in the mode `FCSR.RM`, or some NaN where that is "a NaN result". -/
def Obligations.FloatingArithmetic : Prop :=
  ∀ (s : State) (fd fs ft : Reg), s.cp0.status.getLsbD 29 = true →
    let rm := roundingMode s
    let rule32 := fun (i : Instr) (fn : FpFun) (b : Word32) =>
      WritesFpr32 i s fd (fun v => s.cfg.numerics = .specDefault →
        match ieeeFunction binary32 fn rm (readFpr32 fs s).toNat b.toNat with
        | some p => v = BitVec.ofNat 32 p
        | none => isNan binary32 v.toNat = true)
    let rule64 := fun (i : Instr) (fn : FpFun) (b : Word) =>
      WritesFpr64 i s fd (fun v => s.cfg.numerics = .specDefault →
        match ieeeFunction binary64 fn rm (readFpr64 fs s).toNat b.toNat with
        | some p => v = BitVec.ofNat 64 p
        | none => isNan binary64 v.toNat = true)
    rule32 (.addS fd fs ft) .add (readFpr32 ft s) ∧ rule32 (.subS fd fs ft) .sub (readFpr32 ft s) ∧
    rule32 (.mulS fd fs ft) .mul (readFpr32 ft s) ∧ rule32 (.divS fd fs ft) .div (readFpr32 ft s) ∧
    rule32 (.sqrtS fd fs) .sqrt 0 ∧ rule32 (.recipS fd fs) .recip 0 ∧ rule32 (.rsqrtS fd fs) .rsqrt 0 ∧
    rule64 (.addD fd fs ft) .add (readFpr64 ft s) ∧ rule64 (.subD fd fs ft) .sub (readFpr64 ft s) ∧
    rule64 (.mulD fd fs ft) .mul (readFpr64 ft s) ∧ rule64 (.divD fd fs ft) .div (readFpr64 ft s) ∧
    rule64 (.sqrtD fd fs) .sqrt 0 ∧ rule64 (.recipD fd fs) .recip 0 ∧ rule64 (.rsqrtD fd fs) .rsqrt 0

/-- R391: the default sum, difference, product and quotient of finite numbers, when it is not zero, and the square
root of a positive one, is the exact result rounded once, in either format and every mode, overflow and gradual
underflow included. (The square root is compared by its square, so that it need not be a rational number.) Marked
by the spec as its own inference or decision, in part: R391 (assumption 20). -/
def Obligations.ArithmeticIsCorrectlyRounded : Prop :=
  ∀ (f : FpFormat) (rm : RoundingMode) (a b : Nat), f = binary32 ∨ f = binary64 →
    IsFinitePattern f a → IsFinitePattern f b →
    let x := patternValue f a
    let y := patternValue f b
    let rule := fun (fn : FpFun) (z : ℚ) =>
      z ≠ 0 → ∃ p, ieeeFunction f fn rm a b = some p ∧ IsRoundedPattern f rm (decide (z < 0)) |z| p
    rule .add (x + y) ∧ rule .sub (x - y) ∧ rule .mul (x * y) ∧ (y ≠ 0 → rule .div (x / y)) ∧
    (0 < x → ∃ p, ieeeFunction f .sqrt rm a b = some p ∧ IsRoundedRoot f rm x p)

/-- R391, R392: the default functions give a NaN result exactly for a NaN operand or an invalid operation; and the
results that are not a rounded number: every zero with its sign, exact cancellation included, and every infinity.
The reciprocal is the quotient of `1.0`, and the reciprocal square root that of the rounded root. Marked by the
spec as its own inference or decision, in part: R391, R392 (assumption 20). -/
def Obligations.SpecialArithmeticResults : Prop :=
  ∀ (f : FpFormat) (rm : RoundingMode) (a b : Nat), f = binary32 ∨ f = binary64 →
    let nan := isNan f a = true ∨ isNan f b = true
    let one := if f = binary32 then 0x3F800000 else 0x3FF0000000000000
    let finite := fun x => IsFinitePattern f x
    let infinite := fun x => IsInfinityPattern f x
    let zero := fun x => magnitudeOf f x = 0
    let sa := signOf f a
    let sb := signOf f b
    let zeroOf := fun (sign : Bool) => some (withSign f sign 0)
    let infinityOf := fun (sign : Bool) => some (withSign f sign (infinityMagnitude f))
    let fadd := ieeeFunction f .add rm a b
    let fsub := ieeeFunction f .sub rm a b
    let fmul := ieeeFunction f .mul rm a b
    let fdiv := ieeeFunction f .div rm a b
    let fsqrt := ieeeFunction f .sqrt rm a b
    (fadd = none ↔ nan ∨ (infinite a ∧ infinite b ∧ sa ≠ sb)) ∧
    (fsub = none ↔ nan ∨ (infinite a ∧ infinite b ∧ sa = sb)) ∧
    (fmul = none ↔ nan ∨ (infinite a ∧ zero b) ∨ (zero a ∧ infinite b)) ∧
    (fdiv = none ↔ nan ∨ (infinite a ∧ infinite b) ∨ (zero a ∧ zero b)) ∧
    (fsqrt = none ↔ isNan f a = true ∨ (sa = true ∧ ¬ zero a)) ∧
    (finite a → finite b → patternValue f a + patternValue f b = 0 →
      fadd = zeroOf (if sa = sb then sa else decide (rm = .down))) ∧
    (finite a → finite b → patternValue f a - patternValue f b = 0 →
      fsub = zeroOf (if sa ≠ sb then sa else decide (rm = .down))) ∧
    (finite a → finite b → zero a ∨ zero b → fmul = zeroOf (sa ^^ sb)) ∧
    (finite b → zero a → ¬ zero b → fdiv = zeroOf (sa ^^ sb)) ∧
    (finite a → infinite b → fdiv = zeroOf (sa ^^ sb)) ∧
    (zero a → fsqrt = zeroOf sa) ∧
    (infinite a → finite b ∨ (infinite b ∧ sa = sb) → fadd = infinityOf sa) ∧
    (finite a → infinite b → fadd = infinityOf sb) ∧
    (infinite a → finite b ∨ (infinite b ∧ sa ≠ sb) → fsub = infinityOf sa) ∧
    (finite a → infinite b → fsub = infinityOf (!sb)) ∧
    (infinite a → infinite b ∨ (finite b ∧ ¬ zero b) → fmul = infinityOf (sa ^^ sb)) ∧
    (finite a → ¬ zero a → infinite b → fmul = infinityOf (sa ^^ sb)) ∧
    (infinite a → finite b → fdiv = infinityOf (sa ^^ sb)) ∧
    (finite a → ¬ zero a → zero b → fdiv = infinityOf (sa ^^ sb)) ∧
    (infinite a → sa = false → fsqrt = infinityOf false) ∧
    ieeeFunction f .recip rm a b = ieeeFunction f .div rm one a ∧
    (∀ r, fsqrt = some r → ieeeFunction f .rsqrt rm a b = ieeeFunction f .div rm one r) ∧
    (fsqrt = none → ieeeFunction f .rsqrt rm a b = none)

/-- R398 to R400: sign operations and moves are bit operations in the view of their format; R414 to R417: a
conditional move is a bit copy when its condition holds, and nothing when it does not. Marked by the spec as its
own inference or decision, in part: R398, R400 (assumption 20). -/
def Obligations.FloatingSignsAndConditionalMoves : Prop :=
  ∀ (s : State) (fd fs rt : Reg) (cc : Nat), s.cp0.status.getLsbD 29 = true → cc < 8 →
    let x := readFpr32 fs s
    let y := readFpr64 fs s
    let rule32 := fun (i : Instr) (c : Prop) =>
      (c → WritesFpr32 i s fd (fun v => v = readFpr32 fs s)) ∧ (¬ c → DoesNothing i s)
    let rule64 := fun (i : Instr) (c : Prop) =>
      (c → WritesFpr64 i s fd (fun v => v = readFpr64 fs s)) ∧ (¬ c → DoesNothing i s)
    WritesFpr32 (.absS fd fs) s fd (fun v => ∀ k, k < 32 → v.getLsbD k = (x.getLsbD k && decide (k ≠ 31))) ∧
    WritesFpr32 (.movS fd fs) s fd (fun v => v = x) ∧
    WritesFpr32 (.negS fd fs) s fd (fun v => ∀ k, k < 32 → v.getLsbD k = (x.getLsbD k ^^ decide (k = 31))) ∧
    WritesFpr64 (.absD fd fs) s fd (fun v => ∀ k, k < 64 → v.getLsbD k = (y.getLsbD k && decide (k ≠ 63))) ∧
    WritesFpr64 (.movD fd fs) s fd (fun v => v = y) ∧
    WritesFpr64 (.negD fd fs) s fd (fun v => ∀ k, k < 64 → v.getLsbD k = (y.getLsbD k ^^ decide (k = 63))) ∧
    rule32 (.movfS fd fs cc) (s.fcc.getLsbD cc = false) ∧ rule32 (.movtS fd fs cc) (s.fcc.getLsbD cc = true) ∧
    rule32 (.movzS fd fs rt) (readGpr rt s = 0) ∧ rule32 (.movnS fd fs rt) (readGpr rt s ≠ 0) ∧
    rule64 (.movfD fd fs cc) (s.fcc.getLsbD cc = false) ∧ rule64 (.movtD fd fs cc) (s.fcc.getLsbD cc = true) ∧
    rule64 (.movzD fd fs rt) (readGpr rt s = 0) ∧ rule64 (.movnD fd fs rt) (readGpr rt s ≠ 0)

/-- R401 to R409, R412, R413: the conversions to integers, in their fixed direction or that of `FCSR.RM`: the
rounded integer when it fits, the configured invalid value when it does not and for infinities and NaNs. Marked by
the spec as its own inference or decision, in part: R401 (assumption 20). -/
def Obligations.ConversionsToIntegers : Prop :=
  ∀ (s : State) (fd fs : Reg), s.cp0.status.getLsbD 29 = true →
    let rule := fun (f : FpFormat) (bits : Nat) (rm : RoundingMode) (w : Nat) (invalid v : BitVec w) =>
      (¬ IsFinitePattern f bits → v = invalid) ∧
      (IsFinitePattern f bits → ∃ r : Int, IsRoundedInteger rm (patternValue f bits) r ∧
        v = if -2 ^ (w - 1) ≤ r ∧ r ≤ 2 ^ (w - 1) - 1 then BitVec.ofInt w r else invalid)
    let a := (readFpr32 fs s).toNat
    let b := (readFpr64 fs s).toNat
    let word := fun (i : Instr) (f : FpFormat) (bits : Nat) (rm : RoundingMode) =>
      WritesFpr32 i s fd (rule f bits rm 32 s.cfg.invalidInt32)
    let long := fun (i : Instr) (f : FpFormat) (bits : Nat) (rm : RoundingMode) =>
      WritesFpr64 i s fd (rule f bits rm 64 s.cfg.invalidInt64)
    long (.roundLS fd fs) binary32 a .nearestEven ∧ long (.truncLS fd fs) binary32 a .towardZero ∧
    long (.ceilLS fd fs) binary32 a .up ∧ long (.floorLS fd fs) binary32 a .down ∧
    word (.roundWS fd fs) binary32 a .nearestEven ∧ word (.truncWS fd fs) binary32 a .towardZero ∧
    word (.ceilWS fd fs) binary32 a .up ∧ word (.floorWS fd fs) binary32 a .down ∧
    long (.roundLD fd fs) binary64 b .nearestEven ∧ long (.truncLD fd fs) binary64 b .towardZero ∧
    long (.ceilLD fd fs) binary64 b .up ∧ long (.floorLD fd fs) binary64 b .down ∧
    word (.roundWD fd fs) binary64 b .nearestEven ∧ word (.truncWD fd fs) binary64 b .towardZero ∧
    word (.ceilWD fd fs) binary64 b .up ∧ word (.floorWD fd fs) binary64 b .down ∧
    word (.cvtWS fd fs) binary32 a (roundingMode s) ∧ word (.cvtWD fd fs) binary64 b (roundingMode s) ∧
    long (.cvtLS fd fs) binary32 a (roundingMode s) ∧ long (.cvtLD fd fs) binary64 b (roundingMode s)

/-- R410, R411: the conversions to floating point: an integer or a finite number rounded once in `FCSR.RM` (zero
with its sign, overflow and gradual underflow as R391 has them), an infinity kept, a NaN giving some NaN. That this
holds also with an implementation's own arithmetic functions is the model's choice (assumption 8). Marked by the
spec as its own inference or decision, in part: R391 (assumption 20). -/
def Obligations.ConversionsToFloatingPoint : Prop :=
  ∀ (s : State) (fd fs : Reg), s.cp0.status.getLsbD 29 = true →
    let rm := roundingMode s
    let ofInteger := fun (f : FpFormat) (x : Int) (bits : Nat) =>
      (x = 0 → bits = 0) ∧ (x ≠ 0 → IsRoundedPattern f rm (decide (x < 0)) |(x : ℚ)| bits)
    let ofFloat := fun (src dst : FpFormat) (old bits : Nat) =>
      (isNan src old = true → isNan dst bits = true) ∧
      (IsInfinityPattern src old → bits = withSign dst (signOf src old) (infinityMagnitude dst)) ∧
      (magnitudeOf src old = 0 → bits = withSign dst (signOf src old) 0) ∧
      (IsFinitePattern src old → magnitudeOf src old ≠ 0 →
        IsRoundedPattern dst rm (signOf src old) |patternValue src old| bits)
    WritesFpr32 (.cvtSD fd fs) s fd (fun v => ofFloat binary64 binary32 (readFpr64 fs s).toNat v.toNat) ∧
    WritesFpr32 (.cvtSW fd fs) s fd (fun v => ofInteger binary32 (readFpr32 fs s).toInt v.toNat) ∧
    WritesFpr32 (.cvtSL fd fs) s fd (fun v => ofInteger binary32 (readFpr64 fs s).toInt v.toNat) ∧
    WritesFpr64 (.cvtDS fd fs) s fd (fun v => ofFloat binary32 binary64 (readFpr32 fs s).toNat v.toNat) ∧
    WritesFpr64 (.cvtDW fd fs) s fd (fun v => ofInteger binary64 (readFpr32 fs s).toInt v.toNat) ∧
    WritesFpr64 (.cvtDL fd fs) s fd (fun v => ofInteger binary64 (readFpr64 fs s).toInt v.toNat)

/-- R425, R426: the 32 compares: the condition bit is set by the outcomes the condition counts; the outcome is that
of the numbers, infinities beyond every finite number, or unordered when an operand is a NaN. Marked by the spec as
its own inference or decision, in part: R426 (assumption 20). -/
def Obligations.CompareInstructions : Prop :=
  ∀ (s : State) (fs ft : Reg) (cc : Nat), s.cp0.status.getLsbD 29 = true → cc < 8 →
    let o := compareValues binary32 (readFpr32 fs s).toNat (readFpr32 ft s).toNat
    let d := compareValues binary64 (readFpr64 fs s).toNat (readFpr64 ft s).toNat
    WritesFcc (.cFS cc fs ft) s cc false ∧ WritesFcc (.cUnS cc fs ft) s cc o.unordered ∧
    WritesFcc (.cEqS cc fs ft) s cc o.equal ∧ WritesFcc (.cUeqS cc fs ft) s cc (o.unordered || o.equal) ∧
    WritesFcc (.cOltS cc fs ft) s cc o.less ∧ WritesFcc (.cUltS cc fs ft) s cc (o.unordered || o.less) ∧
    WritesFcc (.cOleS cc fs ft) s cc (o.less || o.equal) ∧
    WritesFcc (.cUleS cc fs ft) s cc (o.unordered || o.less || o.equal) ∧
    WritesFcc (.cSfS cc fs ft) s cc false ∧ WritesFcc (.cNgleS cc fs ft) s cc o.unordered ∧
    WritesFcc (.cSeqS cc fs ft) s cc o.equal ∧ WritesFcc (.cNglS cc fs ft) s cc (o.unordered || o.equal) ∧
    WritesFcc (.cLtS cc fs ft) s cc o.less ∧ WritesFcc (.cNgeS cc fs ft) s cc (o.unordered || o.less) ∧
    WritesFcc (.cLeS cc fs ft) s cc (o.less || o.equal) ∧
    WritesFcc (.cNgtS cc fs ft) s cc (o.unordered || o.less || o.equal) ∧
    WritesFcc (.cFD cc fs ft) s cc false ∧ WritesFcc (.cUnD cc fs ft) s cc d.unordered ∧
    WritesFcc (.cEqD cc fs ft) s cc d.equal ∧ WritesFcc (.cUeqD cc fs ft) s cc (d.unordered || d.equal) ∧
    WritesFcc (.cOltD cc fs ft) s cc d.less ∧ WritesFcc (.cUltD cc fs ft) s cc (d.unordered || d.less) ∧
    WritesFcc (.cOleD cc fs ft) s cc (d.less || d.equal) ∧
    WritesFcc (.cUleD cc fs ft) s cc (d.unordered || d.less || d.equal) ∧
    WritesFcc (.cSfD cc fs ft) s cc false ∧ WritesFcc (.cNgleD cc fs ft) s cc d.unordered ∧
    WritesFcc (.cSeqD cc fs ft) s cc d.equal ∧ WritesFcc (.cNglD cc fs ft) s cc (d.unordered || d.equal) ∧
    WritesFcc (.cLtD cc fs ft) s cc d.less ∧ WritesFcc (.cNgeD cc fs ft) s cc (d.unordered || d.less) ∧
    WritesFcc (.cLeD cc fs ft) s cc (d.less || d.equal) ∧
    WritesFcc (.cNgtD cc fs ft) s cc (d.unordered || d.less || d.equal)

/-- R425, R392: the comparison that the compares use is that of the numbers: unordered exactly when an operand is a
NaN, else less and equal as the values are, -0 equal to +0, each infinity beyond every finite number. Marked by the
spec as its own inference or decision, in part: R392 (assumption 20). -/
def Obligations.ComparisonIsNumeric : Prop :=
  ∀ (f : FpFormat) (a b : Nat), f = binary32 ∨ f = binary64 →
    let o := compareValues f a b
    (o.unordered = true ↔ isNan f a = true ∨ isNan f b = true) ∧
    (o.unordered = true → o.less = false ∧ o.equal = false) ∧
    (IsFinitePattern f a → IsFinitePattern f b →
      (o.less = true ↔ patternValue f a < patternValue f b) ∧ (o.equal = true ↔ patternValue f a = patternValue f b)) ∧
    (IsFinitePattern f a → IsInfinityPattern f b → o.less = !signOf f b ∧ o.equal = false) ∧
    (IsInfinityPattern f a → IsFinitePattern f b → o.less = signOf f a ∧ o.equal = false) ∧
    (IsInfinityPattern f a → IsInfinityPattern f b →
      o.less = (signOf f a && !signOf f b) ∧ o.equal = (signOf f a == signOf f b))
end

