-- ==== Sys2Proof/Laws/Encoding.lean ====
section
/-! SUPPORT. Reading a field of a word that is put together from placed fields: the lemmas that take an encoding
apart. -/

namespace Sys2Proof

/-- A field of a disjunction. -/
theorem field_or (a b : Word32) (lo len : Nat) : field (a ||| b) lo len = field a lo len ||| field b lo len := by
  ext i hi
  simp [field]

/-- A field reads back what was placed there. -/
theorem field_place_same {len : Nat} (lo : Nat) (v : BitVec len) (h : lo + len ≤ 32) :
    field (place lo v) lo len = v := by
  apply BitVec.eq_of_getLsbD_eq
  intro i hi
  simp only [field, place, BitVec.getLsbD_extractLsb', BitVec.getLsbD_shiftLeft, BitVec.getLsbD_setWidth]
  have h1 : lo + i < 32 := by omega
  have h2 : ¬ lo + i < lo := by omega
  have h3 : lo + i - lo = i := by omega
  have h4 : i < 32 := by omega
  simp [hi, h1, h2, h3, h4]

/-- A field below a placed one reads 0. -/
theorem field_place_below {n : Nat} (at_ : Nat) (v : BitVec n) (lo len : Nat) (h : lo + len ≤ at_) :
    field (place at_ v) lo len = 0 := by
  apply BitVec.eq_of_getLsbD_eq
  intro i hi
  have h1 : lo + i < at_ := by omega
  simp [field, place, h1]

/-- A field above a placed one reads 0. -/
theorem field_place_above {n : Nat} (at_ : Nat) (v : BitVec n) (lo len : Nat) (h : at_ + n ≤ lo) :
    field (place at_ v) lo len = 0 := by
  apply BitVec.eq_of_getLsbD_eq
  intro i hi
  have h1 : n ≤ lo + i - at_ := by omega
  have h2 : v.getLsbD (lo + i - at_) = false := BitVec.getLsbD_of_ge v _ h1
  simp [field, place, h2]

/-- The fields of format R. -/
theorem encodeR_fields (rs rt rd sa : Reg) (funct : BitVec 6) :
    let w := encodeR rs rt rd sa funct
    field w 26 6 = 0 ∧ field w 21 5 = rs ∧ field w 16 5 = rt ∧ field w 11 5 = rd ∧ field w 6 5 = sa ∧
      field w 0 6 = funct := by
  simp [encodeR, field_or, field_place_same, field_place_below, field_place_above]

/-- The fields of formats I, RI and CB of COP0. -/
theorem encodeI_fields (op : BitVec 6) (a b : BitVec 5) (imm : Imm16) :
    let w := encodeI op a b imm
    field w 26 6 = op ∧ field w 21 5 = a ∧ field w 16 5 = b ∧ field w 0 16 = imm := by
  simp [encodeI, field_or, field_place_same, field_place_below, field_place_above]

/-- The fields of format J. -/
theorem encodeJ_fields (op : BitVec 6) (target : BitVec 26) :
    let w := encodeJ op target
    field w 26 6 = op ∧ field w 0 26 = target := by
  simp [encodeJ, field_or, field_place_same, field_place_below, field_place_above]

/-- The fields of format CM. -/
theorem encodeCM_fields (op : BitVec 6) (sub rt rd : BitVec 5) :
    let w := encodeCM op sub rt rd
    field w 26 6 = op ∧ field w 21 5 = sub ∧ field w 16 5 = rt ∧ field w 11 5 = rd := by
  simp [encodeCM, field_or, field_place_same, field_place_below, field_place_above]

/-- The fields of format CB of COP1. -/
theorem encodeCB_fields (cc : Nat) (ndtf : BitVec 2) (offset : Imm16) :
    let w := encodeCB cc ndtf offset
    field w 26 6 = 0x11 ∧ field w 21 5 = 0x08 ∧ field w 18 3 = BitVec.ofNat 3 cc ∧ field w 16 2 = ndtf ∧
      field w 0 16 = offset := by
  simp [encodeCB, field_or, field_place_same, field_place_below, field_place_above]

/-- The fields of format C0. -/
theorem encodeC0_fields (funct : BitVec 6) :
    let w := encodeC0 funct
    field w 26 6 = 0x10 ∧ field w 25 1 = 1 ∧ field w 0 6 = funct := by
  simp [encodeC0, field_or, field_place_same, field_place_below, field_place_above]

/-- The fields of format FR. -/
theorem encodeFR_fields (fmt ft fs fd : BitVec 5) (funct : BitVec 6) :
    let w := encodeFR fmt ft fs fd funct
    field w 26 6 = 0x11 ∧ field w 21 5 = fmt ∧ field w 16 5 = ft ∧ field w 11 5 = fs ∧ field w 6 5 = fd ∧
      field w 0 6 = funct := by
  simp [encodeFR, field_or, field_place_same, field_place_below, field_place_above]

/-- The fields of format FC. -/
theorem encodeFC_fields (fmt ft fs : BitVec 5) (cc : Nat) (funct : BitVec 6) :
    let w := encodeFC fmt ft fs cc funct
    field w 26 6 = 0x11 ∧ field w 21 5 = fmt ∧ field w 16 5 = ft ∧ field w 11 5 = fs ∧
      field w 8 3 = BitVec.ofNat 3 cc ∧ field w 0 6 = funct := by
  simp [encodeFC, field_or, field_place_same, field_place_below, field_place_above]

/-- The fields of format FM. -/
theorem encodeFM_fields (fmt : BitVec 5) (cc : Nat) (tf : BitVec 1) (fs fd : BitVec 5) :
    let w := encodeFM fmt cc tf fs fd
    field w 26 6 = 0x11 ∧ field w 21 5 = fmt ∧ field w 18 3 = BitVec.ofNat 3 cc ∧ field w 16 1 = tf ∧
      field w 11 5 = fs ∧ field w 6 5 = fd ∧ field w 0 6 = 0x11 := by
  simp [encodeFM, field_or, field_place_same, field_place_below, field_place_above]

/-- The fields of a trap, with its two registers. -/
theorem encodeTrap_fields (rs rt : Reg) (code : BitVec 10) (funct : BitVec 6) :
    let w := encodeCode (place 21 rs ||| place 16 rt) code funct
    field w 26 6 = 0 ∧ field w 21 5 = rs ∧ field w 16 5 = rt ∧ field w 6 10 = code ∧ field w 0 6 = funct := by
  simp [encodeCode, field_or, field_place_same, field_place_below, field_place_above]

/-- The fields of a system call or breakpoint. -/
theorem encodeCode_fields (code : BitVec 20) (funct : BitVec 6) :
    let w := encodeCode 0#32 code funct
    field w 26 6 = 0 ∧ field w 6 20 = code ∧ field w 0 6 = funct := by
  simp [encodeCode, field_or, field_place_same, field_place_below, field_place_above]

end Sys2Proof
end

