-- ==== Sys2Proof/Laws/Memory.lean ====
section
/-! SUPPORT. Laws of physical memory: reads after writes, and the canonical form, which every write keeps. -/

namespace Sys2Proof.Machine

/-- Every key of the list lies above `a`. -/
def Memory.keysAbove (a : Nat) (m : Memory) : Prop := ∀ x ∈ m, a < x.1

theorem Memory.wf_cons (x : Host.Cell) (m : Memory) :
    Memory.wf (x :: m) = true ↔ m.keysAbove x.1 ∧ x.2 ≠ unlistedByte ∧ Memory.wf m = true := by
  simp only [Memory.wf, List.pairwise_cons, List.all_cons, Bool.and_eq_true, decide_eq_true_eq, keysAbove]
  tauto

theorem Memory.wf_nil : Memory.wf [] = true := by decide

theorem Memory.readByte_below (m : Memory) (a : Nat) (h : m.keysAbove a) : m.readByte a = unlistedByte := by
  induction m with
  | nil => rfl
  | cons x rest ih =>
    have hx := h x (by simp)
    have : x.1 ≠ a := by omega
    simp only [Memory.readByte, this, if_false]
    exact ih fun y hy => h y (by simp [hy])

theorem Memory.keysAbove_writeByte (m : Memory) (a b : Nat) (v : Byte) (h : m.keysAbove a) (hb : a < b) :
    (m.writeByte b v).keysAbove a := by
  induction m with
  | nil => intro x hx; simp only [Memory.writeByte] at hx; split at hx <;> simp_all
  | cons c rest ih =>
    have hc := h c (by simp)
    have ih := ih fun y hy => h y (by simp [hy])
    intro x hx
    simp only [Memory.writeByte] at hx
    split at hx
    · split at hx
      · exact h x hx
      · rcases List.mem_cons.mp hx with rfl | hx
        · exact hb
        · exact h x hx
    · split at hx
      · split at hx
        · exact h x (by simp [hx])
        · rcases List.mem_cons.mp hx with rfl | hx
          · exact hb
          · exact h x (by simp [hx])
      · rcases List.mem_cons.mp hx with rfl | hx
        · exact hc
        · exact ih x hx

/-- A write of one byte keeps the canonical form. -/
theorem Memory.wf_writeByte (m : Memory) (a : Nat) (v : Byte) (h : m.wf = true) : (m.writeByte a v).wf = true := by
  induction m with
  | nil =>
    simp only [Memory.writeByte]
    split
    · exact wf_nil
    · rename_i hv
      exact (wf_cons _ _).mpr ⟨fun x hx => by simp at hx, hv, wf_nil⟩
  | cons c rest ih =>
    obtain ⟨hk, hc, hr⟩ := (wf_cons _ _).mp h
    simp only [Memory.writeByte]
    split
    · rename_i ha
      split
      · exact h
      · rename_i hv
        refine (wf_cons _ _).mpr ⟨?_, hv, h⟩
        intro x hx
        rcases List.mem_cons.mp hx with rfl | hx
        · exact ha
        · exact Nat.lt_trans ha (hk x hx)
    · split
      · rename_i ha
        split
        · exact hr
        · rename_i hv
          exact (wf_cons _ _).mpr ⟨fun x hx => by simpa [ha] using hk x hx, hv, hr⟩
      · exact (wf_cons _ _).mpr ⟨keysAbove_writeByte rest c.1 a v hk (by omega), hc, ih hr⟩

/-- The byte written is the byte read. -/
theorem Memory.readByte_writeByte_same (m : Memory) (a : Nat) (v : Byte) (h : m.wf = true) :
    (m.writeByte a v).readByte a = v := by
  induction m with
  | nil => simp only [Memory.writeByte]; split <;> simp_all [Memory.readByte]
  | cons c rest ih =>
    obtain ⟨hk, -, hr⟩ := (wf_cons _ _).mp h
    simp only [Memory.writeByte]
    split
    · split
      · rename_i ha hv
        rw [hv]
        refine readByte_below _ _ fun x hx => ?_
        rcases List.mem_cons.mp hx with rfl | hx
        · exact ha
        · exact Nat.lt_trans ha (hk x hx)
      · simp [Memory.readByte]
    · split
      · rename_i ha
        split
        · rename_i hv
          rw [hv]
          exact readByte_below _ _ fun x hx => by simpa [ha] using hk x hx
        · simp [Memory.readByte]
      · have : c.1 ≠ a := by omega
        simp only [Memory.readByte, this, if_false]
        exact ih hr

/-- Every other byte reads as before. -/
theorem Memory.readByte_writeByte_other (m : Memory) (a b : Nat) (v : Byte) (hab : b ≠ a) :
    (m.writeByte a v).readByte b = m.readByte b := by
  induction m with
  | nil => simp only [Memory.writeByte]; split <;> simp [Memory.readByte, Ne.symm hab]
  | cons c rest ih =>
    simp only [Memory.writeByte]
    split
    · split <;> simp [Memory.readByte, Ne.symm hab]
    · split
      · split <;> simp_all [Memory.readByte, Ne.symm]
      · simp only [Memory.readByte, ih]

/-- A write of byte lanes keeps the canonical form. -/
theorem wf_writeLanes (be : Bool) (m : Memory) (pa n : Nat) (v mask : Word) (k : Nat) (h : m.wf = true) :
    (writeLanes be m pa n v mask k).wf = true := by
  induction k with
  | zero => exact h
  | succ k ih =>
    simp only [writeLanes]
    split
    · exact Memory.wf_writeByte _ _ _ ih
    · exact ih

/-- Different lanes of one access lie at different addresses. -/
theorem laneAddr_ne (be : Bool) (pa n j k : Nat) (hj : j < n) (hk : k < n) (h : j ≠ k) :
    laneAddr be pa n j ≠ laneAddr be pa n k := by
  unfold laneAddr; split <;> omega

/-- A lane lies within the access. -/
theorem laneAddr_mem (be : Bool) (pa n k : Nat) (hk : k < n) :
    pa ≤ laneAddr be pa n k ∧ laneAddr be pa n k < pa + n := by
  unfold laneAddr; split <;> omega

/-- What a write of lanes does to every byte of memory: a selected lane gets its byte, any other address keeps its. -/
theorem readByte_writeLanes (be : Bool) (m : Memory) (pa n : Nat) (v mask : Word) (k : Nat) (hk : k ≤ n)
    (h : m.wf = true) :
    (∀ j, j < k → laneByte mask j = 0xFF#8 →
      (writeLanes be m pa n v mask k).readByte (laneAddr be pa n j) = laneByte v j) ∧
    (∀ a, (∀ j, j < k → laneByte mask j = 0xFF#8 → a ≠ laneAddr be pa n j) →
      (writeLanes be m pa n v mask k).readByte a = m.readByte a) := by
  induction k with
  | zero => exact ⟨fun j hj => by omega, fun a _ => rfl⟩
  | succ k ih =>
    obtain ⟨ih1, ih2⟩ := ih (by omega)
    have hwf := wf_writeLanes be m pa n v mask k h
    simp only [writeLanes]
    constructor
    · intro j hj hm
      by_cases hjk : j = k
      · subst hjk
        rw [if_pos hm]
        exact Memory.readByte_writeByte_same _ _ _ hwf
      · have hne : laneAddr be pa n j ≠ laneAddr be pa n k := laneAddr_ne be pa n j k (by omega) (by omega) hjk
        split
        · rw [Memory.readByte_writeByte_other _ _ _ _ hne]
          exact ih1 j (by omega) hm
        · exact ih1 j (by omega) hm
    · intro a ha
      have hold := ih2 a fun j hj => ha j (by omega)
      split
      · rename_i hm
        rw [Memory.readByte_writeByte_other _ _ _ _ (ha k (by omega) hm)]
        exact hold
      · exact hold

end Sys2Proof.Machine
end

