-- ==== Sys2Proof/Laws/State.lean ====
section
/-! SUPPORT. For each update of the state, one lemma for each field it leaves alone, so that no proof unfolds an
update to see past it. -/

namespace Sys2Proof.Machine

variable (s : State)

/-! `takeBranch` -/

@[simp] theorem takeBranch_pc (t : Word) : (takeBranch t s).pc = s.pc := rfl
@[simp] theorem takeBranch_gpr (t : Word) : (takeBranch t s).gpr = s.gpr := rfl
@[simp] theorem takeBranch_hi (t : Word) : (takeBranch t s).hi = s.hi := rfl
@[simp] theorem takeBranch_lo (t : Word) : (takeBranch t s).lo = s.lo := rfl
@[simp] theorem takeBranch_cp0 (t : Word) : (takeBranch t s).cp0 = s.cp0 := rfl
@[simp] theorem takeBranch_ccr0 (t : Word) : (takeBranch t s).ccr0 = s.ccr0 := rfl
@[simp] theorem takeBranch_fpr (t : Word) : (takeBranch t s).fpr = s.fpr := rfl
@[simp] theorem takeBranch_ccr1 (t : Word) : (takeBranch t s).ccr1 = s.ccr1 := rfl
@[simp] theorem takeBranch_fcc (t : Word) : (takeBranch t s).fcc = s.fcc := rfl
@[simp] theorem takeBranch_cc0 (t : Word) : (takeBranch t s).cc0 = s.cc0 := rfl
@[simp] theorem takeBranch_llValue (t : Word) : (takeBranch t s).llValue = s.llValue := rfl
@[simp] theorem takeBranch_lldValue (t : Word) : (takeBranch t s).lldValue = s.lldValue := rfl
@[simp] theorem takeBranch_countZeroTime (t : Word) : (takeBranch t s).countZeroTime = s.countZeroTime := rfl
@[simp] theorem takeBranch_compareArmed (t : Word) : (takeBranch t s).compareArmed = s.compareArmed := rfl
@[simp] theorem takeBranch_timerDeadline (t : Word) : (takeBranch t s).timerDeadline = s.timerDeadline := rfl
@[simp] theorem takeBranch_tlb (t : Word) : (takeBranch t s).tlb = s.tlb := rfl
@[simp] theorem takeBranch_mem (t : Word) : (takeBranch t s).mem = s.mem := rfl
@[simp] theorem takeBranch_cycles (t : Word) : (takeBranch t s).cycles = s.cycles := rfl
@[simp] theorem takeBranch_steps (t : Word) : (takeBranch t s).steps = s.steps := rfl
@[simp] theorem takeBranch_inputs (t : Word) : (takeBranch t s).inputs = s.inputs := rfl
@[simp] theorem takeBranch_draws (t : Word) : (takeBranch t s).draws = s.draws := rfl
@[simp] theorem takeBranch_cfg (t : Word) : (takeBranch t s).cfg = s.cfg := rfl

/-! `nullifySlot` -/

@[simp] theorem nullifySlot_pc : (nullifySlot s).pc = s.pc := rfl
@[simp] theorem nullifySlot_gpr : (nullifySlot s).gpr = s.gpr := rfl
@[simp] theorem nullifySlot_hi : (nullifySlot s).hi = s.hi := rfl
@[simp] theorem nullifySlot_lo : (nullifySlot s).lo = s.lo := rfl
@[simp] theorem nullifySlot_branchTarget : (nullifySlot s).branchTarget = s.branchTarget := rfl
@[simp] theorem nullifySlot_cp0 : (nullifySlot s).cp0 = s.cp0 := rfl
@[simp] theorem nullifySlot_ccr0 : (nullifySlot s).ccr0 = s.ccr0 := rfl
@[simp] theorem nullifySlot_fpr : (nullifySlot s).fpr = s.fpr := rfl
@[simp] theorem nullifySlot_ccr1 : (nullifySlot s).ccr1 = s.ccr1 := rfl
@[simp] theorem nullifySlot_fcc : (nullifySlot s).fcc = s.fcc := rfl
@[simp] theorem nullifySlot_cc0 : (nullifySlot s).cc0 = s.cc0 := rfl
@[simp] theorem nullifySlot_llValue : (nullifySlot s).llValue = s.llValue := rfl
@[simp] theorem nullifySlot_lldValue : (nullifySlot s).lldValue = s.lldValue := rfl
@[simp] theorem nullifySlot_countZeroTime : (nullifySlot s).countZeroTime = s.countZeroTime := rfl
@[simp] theorem nullifySlot_compareArmed : (nullifySlot s).compareArmed = s.compareArmed := rfl
@[simp] theorem nullifySlot_timerDeadline : (nullifySlot s).timerDeadline = s.timerDeadline := rfl
@[simp] theorem nullifySlot_tlb : (nullifySlot s).tlb = s.tlb := rfl
@[simp] theorem nullifySlot_mem : (nullifySlot s).mem = s.mem := rfl
@[simp] theorem nullifySlot_cycles : (nullifySlot s).cycles = s.cycles := rfl
@[simp] theorem nullifySlot_steps : (nullifySlot s).steps = s.steps := rfl
@[simp] theorem nullifySlot_inputs : (nullifySlot s).inputs = s.inputs := rfl
@[simp] theorem nullifySlot_draws : (nullifySlot s).draws = s.draws := rfl
@[simp] theorem nullifySlot_cfg : (nullifySlot s).cfg = s.cfg := rfl

/-! `writeGpr` -/

@[simp] theorem writeGpr_pc (r : Reg) (v : Word) : (writeGpr r v s).pc = s.pc := by unfold writeGpr; split <;> rfl
@[simp] theorem writeGpr_hi (r : Reg) (v : Word) : (writeGpr r v s).hi = s.hi := by unfold writeGpr; split <;> rfl
@[simp] theorem writeGpr_lo (r : Reg) (v : Word) : (writeGpr r v s).lo = s.lo := by unfold writeGpr; split <;> rfl
@[simp] theorem writeGpr_branchState (r : Reg) (v : Word) :
    (writeGpr r v s).branchState = s.branchState := by unfold writeGpr; split <;> rfl
@[simp] theorem writeGpr_branchTarget (r : Reg) (v : Word) :
    (writeGpr r v s).branchTarget = s.branchTarget := by unfold writeGpr; split <;> rfl
@[simp] theorem writeGpr_cp0 (r : Reg) (v : Word) : (writeGpr r v s).cp0 = s.cp0 := by unfold writeGpr; split <;> rfl
@[simp] theorem writeGpr_ccr0 (r : Reg) (v : Word) :
    (writeGpr r v s).ccr0 = s.ccr0 := by unfold writeGpr; split <;> rfl
@[simp] theorem writeGpr_fpr (r : Reg) (v : Word) : (writeGpr r v s).fpr = s.fpr := by unfold writeGpr; split <;> rfl
@[simp] theorem writeGpr_ccr1 (r : Reg) (v : Word) :
    (writeGpr r v s).ccr1 = s.ccr1 := by unfold writeGpr; split <;> rfl
@[simp] theorem writeGpr_fcc (r : Reg) (v : Word) : (writeGpr r v s).fcc = s.fcc := by unfold writeGpr; split <;> rfl
@[simp] theorem writeGpr_cc0 (r : Reg) (v : Word) : (writeGpr r v s).cc0 = s.cc0 := by unfold writeGpr; split <;> rfl
@[simp] theorem writeGpr_llValue (r : Reg) (v : Word) :
    (writeGpr r v s).llValue = s.llValue := by unfold writeGpr; split <;> rfl
@[simp] theorem writeGpr_lldValue (r : Reg) (v : Word) :
    (writeGpr r v s).lldValue = s.lldValue := by unfold writeGpr; split <;> rfl
@[simp] theorem writeGpr_countZeroTime (r : Reg) (v : Word) :
    (writeGpr r v s).countZeroTime = s.countZeroTime := by unfold writeGpr; split <;> rfl
@[simp] theorem writeGpr_compareArmed (r : Reg) (v : Word) :
    (writeGpr r v s).compareArmed = s.compareArmed := by unfold writeGpr; split <;> rfl
@[simp] theorem writeGpr_timerDeadline (r : Reg) (v : Word) :
    (writeGpr r v s).timerDeadline = s.timerDeadline := by unfold writeGpr; split <;> rfl
@[simp] theorem writeGpr_tlb (r : Reg) (v : Word) : (writeGpr r v s).tlb = s.tlb := by unfold writeGpr; split <;> rfl
@[simp] theorem writeGpr_mem (r : Reg) (v : Word) : (writeGpr r v s).mem = s.mem := by unfold writeGpr; split <;> rfl
@[simp] theorem writeGpr_cycles (r : Reg) (v : Word) :
    (writeGpr r v s).cycles = s.cycles := by unfold writeGpr; split <;> rfl
@[simp] theorem writeGpr_steps (r : Reg) (v : Word) :
    (writeGpr r v s).steps = s.steps := by unfold writeGpr; split <;> rfl
@[simp] theorem writeGpr_inputs (r : Reg) (v : Word) :
    (writeGpr r v s).inputs = s.inputs := by unfold writeGpr; split <;> rfl
@[simp] theorem writeGpr_draws (r : Reg) (v : Word) :
    (writeGpr r v s).draws = s.draws := by unfold writeGpr; split <;> rfl
@[simp] theorem writeGpr_cfg (r : Reg) (v : Word) : (writeGpr r v s).cfg = s.cfg := by unfold writeGpr; split <;> rfl

/-! `writeLink` -/

@[simp] theorem writeLink_pc : (writeLink s).pc = s.pc := by simp [writeLink]
@[simp] theorem writeLink_hi : (writeLink s).hi = s.hi := by simp [writeLink]
@[simp] theorem writeLink_lo : (writeLink s).lo = s.lo := by simp [writeLink]
@[simp] theorem writeLink_branchState : (writeLink s).branchState = s.branchState := by simp [writeLink]
@[simp] theorem writeLink_branchTarget : (writeLink s).branchTarget = s.branchTarget := by simp [writeLink]
@[simp] theorem writeLink_cp0 : (writeLink s).cp0 = s.cp0 := by simp [writeLink]
@[simp] theorem writeLink_ccr0 : (writeLink s).ccr0 = s.ccr0 := by simp [writeLink]
@[simp] theorem writeLink_fpr : (writeLink s).fpr = s.fpr := by simp [writeLink]
@[simp] theorem writeLink_ccr1 : (writeLink s).ccr1 = s.ccr1 := by simp [writeLink]
@[simp] theorem writeLink_fcc : (writeLink s).fcc = s.fcc := by simp [writeLink]
@[simp] theorem writeLink_cc0 : (writeLink s).cc0 = s.cc0 := by simp [writeLink]
@[simp] theorem writeLink_llValue : (writeLink s).llValue = s.llValue := by simp [writeLink]
@[simp] theorem writeLink_lldValue : (writeLink s).lldValue = s.lldValue := by simp [writeLink]
@[simp] theorem writeLink_countZeroTime : (writeLink s).countZeroTime = s.countZeroTime := by simp [writeLink]
@[simp] theorem writeLink_compareArmed : (writeLink s).compareArmed = s.compareArmed := by simp [writeLink]
@[simp] theorem writeLink_timerDeadline : (writeLink s).timerDeadline = s.timerDeadline := by simp [writeLink]
@[simp] theorem writeLink_tlb : (writeLink s).tlb = s.tlb := by simp [writeLink]
@[simp] theorem writeLink_mem : (writeLink s).mem = s.mem := by simp [writeLink]
@[simp] theorem writeLink_cycles : (writeLink s).cycles = s.cycles := by simp [writeLink]
@[simp] theorem writeLink_steps : (writeLink s).steps = s.steps := by simp [writeLink]
@[simp] theorem writeLink_inputs : (writeLink s).inputs = s.inputs := by simp [writeLink]
@[simp] theorem writeLink_draws : (writeLink s).draws = s.draws := by simp [writeLink]
@[simp] theorem writeLink_cfg : (writeLink s).cfg = s.cfg := by simp [writeLink]

/-! `resolveBranchPipeline` -/

@[simp] theorem resolveBranchPipeline_gpr :
    (resolveBranchPipeline s).gpr = s.gpr := by unfold resolveBranchPipeline; split <;> rfl
@[simp] theorem resolveBranchPipeline_hi :
    (resolveBranchPipeline s).hi = s.hi := by unfold resolveBranchPipeline; split <;> rfl
@[simp] theorem resolveBranchPipeline_lo :
    (resolveBranchPipeline s).lo = s.lo := by unfold resolveBranchPipeline; split <;> rfl
@[simp] theorem resolveBranchPipeline_branchTarget :
    (resolveBranchPipeline s).branchTarget = s.branchTarget := by unfold resolveBranchPipeline; split <;> rfl
@[simp] theorem resolveBranchPipeline_cp0 :
    (resolveBranchPipeline s).cp0 = s.cp0 := by unfold resolveBranchPipeline; split <;> rfl
@[simp] theorem resolveBranchPipeline_ccr0 :
    (resolveBranchPipeline s).ccr0 = s.ccr0 := by unfold resolveBranchPipeline; split <;> rfl
@[simp] theorem resolveBranchPipeline_fpr :
    (resolveBranchPipeline s).fpr = s.fpr := by unfold resolveBranchPipeline; split <;> rfl
@[simp] theorem resolveBranchPipeline_ccr1 :
    (resolveBranchPipeline s).ccr1 = s.ccr1 := by unfold resolveBranchPipeline; split <;> rfl
@[simp] theorem resolveBranchPipeline_fcc :
    (resolveBranchPipeline s).fcc = s.fcc := by unfold resolveBranchPipeline; split <;> rfl
@[simp] theorem resolveBranchPipeline_cc0 :
    (resolveBranchPipeline s).cc0 = s.cc0 := by unfold resolveBranchPipeline; split <;> rfl
@[simp] theorem resolveBranchPipeline_llValue :
    (resolveBranchPipeline s).llValue = s.llValue := by unfold resolveBranchPipeline; split <;> rfl
@[simp] theorem resolveBranchPipeline_lldValue :
    (resolveBranchPipeline s).lldValue = s.lldValue := by unfold resolveBranchPipeline; split <;> rfl
@[simp] theorem resolveBranchPipeline_countZeroTime :
    (resolveBranchPipeline s).countZeroTime = s.countZeroTime := by unfold resolveBranchPipeline; split <;> rfl
@[simp] theorem resolveBranchPipeline_compareArmed :
    (resolveBranchPipeline s).compareArmed = s.compareArmed := by unfold resolveBranchPipeline; split <;> rfl
@[simp] theorem resolveBranchPipeline_timerDeadline :
    (resolveBranchPipeline s).timerDeadline = s.timerDeadline := by unfold resolveBranchPipeline; split <;> rfl
@[simp] theorem resolveBranchPipeline_tlb :
    (resolveBranchPipeline s).tlb = s.tlb := by unfold resolveBranchPipeline; split <;> rfl
@[simp] theorem resolveBranchPipeline_mem :
    (resolveBranchPipeline s).mem = s.mem := by unfold resolveBranchPipeline; split <;> rfl
@[simp] theorem resolveBranchPipeline_cycles :
    (resolveBranchPipeline s).cycles = s.cycles := by unfold resolveBranchPipeline; split <;> rfl
@[simp] theorem resolveBranchPipeline_steps :
    (resolveBranchPipeline s).steps = s.steps := by unfold resolveBranchPipeline; split <;> rfl
@[simp] theorem resolveBranchPipeline_inputs :
    (resolveBranchPipeline s).inputs = s.inputs := by unfold resolveBranchPipeline; split <;> rfl
@[simp] theorem resolveBranchPipeline_draws :
    (resolveBranchPipeline s).draws = s.draws := by unfold resolveBranchPipeline; split <;> rfl
@[simp] theorem resolveBranchPipeline_cfg :
    (resolveBranchPipeline s).cfg = s.cfg := by unfold resolveBranchPipeline; split <;> rfl

/-! `raise` -/

@[simp] theorem raise_gpr (e : Exc) : (raise e s).gpr = s.gpr := rfl
@[simp] theorem raise_hi (e : Exc) : (raise e s).hi = s.hi := rfl
@[simp] theorem raise_lo (e : Exc) : (raise e s).lo = s.lo := rfl
@[simp] theorem raise_branchTarget (e : Exc) : (raise e s).branchTarget = s.branchTarget := rfl
@[simp] theorem raise_ccr0 (e : Exc) : (raise e s).ccr0 = s.ccr0 := rfl
@[simp] theorem raise_fpr (e : Exc) : (raise e s).fpr = s.fpr := rfl
@[simp] theorem raise_ccr1 (e : Exc) : (raise e s).ccr1 = s.ccr1 := rfl
@[simp] theorem raise_fcc (e : Exc) : (raise e s).fcc = s.fcc := rfl
@[simp] theorem raise_cc0 (e : Exc) : (raise e s).cc0 = s.cc0 := rfl
@[simp] theorem raise_llValue (e : Exc) : (raise e s).llValue = s.llValue := rfl
@[simp] theorem raise_lldValue (e : Exc) : (raise e s).lldValue = s.lldValue := rfl
@[simp] theorem raise_countZeroTime (e : Exc) : (raise e s).countZeroTime = s.countZeroTime := rfl
@[simp] theorem raise_compareArmed (e : Exc) : (raise e s).compareArmed = s.compareArmed := rfl
@[simp] theorem raise_timerDeadline (e : Exc) : (raise e s).timerDeadline = s.timerDeadline := rfl
@[simp] theorem raise_tlb (e : Exc) : (raise e s).tlb = s.tlb := rfl
@[simp] theorem raise_mem (e : Exc) : (raise e s).mem = s.mem := rfl
@[simp] theorem raise_cycles (e : Exc) : (raise e s).cycles = s.cycles := rfl
@[simp] theorem raise_steps (e : Exc) : (raise e s).steps = s.steps := rfl
@[simp] theorem raise_inputs (e : Exc) : (raise e s).inputs = s.inputs := rfl
@[simp] theorem raise_draws (e : Exc) : (raise e s).draws = s.draws := rfl
@[simp] theorem raise_cfg (e : Exc) : (raise e s).cfg = s.cfg := rfl

/-! `returnFromException` -/

@[simp] theorem returnFromException_gpr : (returnFromException s).gpr = s.gpr := rfl
@[simp] theorem returnFromException_hi : (returnFromException s).hi = s.hi := rfl
@[simp] theorem returnFromException_lo : (returnFromException s).lo = s.lo := rfl
@[simp] theorem returnFromException_branchTarget : (returnFromException s).branchTarget = s.branchTarget := rfl
@[simp] theorem returnFromException_ccr0 : (returnFromException s).ccr0 = s.ccr0 := rfl
@[simp] theorem returnFromException_fpr : (returnFromException s).fpr = s.fpr := rfl
@[simp] theorem returnFromException_ccr1 : (returnFromException s).ccr1 = s.ccr1 := rfl
@[simp] theorem returnFromException_fcc : (returnFromException s).fcc = s.fcc := rfl
@[simp] theorem returnFromException_cc0 : (returnFromException s).cc0 = s.cc0 := rfl
@[simp] theorem returnFromException_countZeroTime : (returnFromException s).countZeroTime = s.countZeroTime := rfl
@[simp] theorem returnFromException_compareArmed : (returnFromException s).compareArmed = s.compareArmed := rfl
@[simp] theorem returnFromException_timerDeadline : (returnFromException s).timerDeadline = s.timerDeadline := rfl
@[simp] theorem returnFromException_tlb : (returnFromException s).tlb = s.tlb := rfl
@[simp] theorem returnFromException_mem : (returnFromException s).mem = s.mem := rfl
@[simp] theorem returnFromException_cycles : (returnFromException s).cycles = s.cycles := rfl
@[simp] theorem returnFromException_steps : (returnFromException s).steps = s.steps := rfl
@[simp] theorem returnFromException_inputs : (returnFromException s).inputs = s.inputs := rfl
@[simp] theorem returnFromException_draws : (returnFromException s).draws = s.draws := rfl
@[simp] theorem returnFromException_cfg : (returnFromException s).cfg = s.cfg := rfl

/-! `writeHiLo` -/

@[simp] theorem writeHiLo_pc (h l : Word) : (writeHiLo h l s).pc = s.pc := rfl
@[simp] theorem writeHiLo_gpr (h l : Word) : (writeHiLo h l s).gpr = s.gpr := rfl
@[simp] theorem writeHiLo_branchState (h l : Word) : (writeHiLo h l s).branchState = s.branchState := rfl
@[simp] theorem writeHiLo_branchTarget (h l : Word) : (writeHiLo h l s).branchTarget = s.branchTarget := rfl
@[simp] theorem writeHiLo_cp0 (h l : Word) : (writeHiLo h l s).cp0 = s.cp0 := rfl
@[simp] theorem writeHiLo_ccr0 (h l : Word) : (writeHiLo h l s).ccr0 = s.ccr0 := rfl
@[simp] theorem writeHiLo_fpr (h l : Word) : (writeHiLo h l s).fpr = s.fpr := rfl
@[simp] theorem writeHiLo_ccr1 (h l : Word) : (writeHiLo h l s).ccr1 = s.ccr1 := rfl
@[simp] theorem writeHiLo_fcc (h l : Word) : (writeHiLo h l s).fcc = s.fcc := rfl
@[simp] theorem writeHiLo_cc0 (h l : Word) : (writeHiLo h l s).cc0 = s.cc0 := rfl
@[simp] theorem writeHiLo_llValue (h l : Word) : (writeHiLo h l s).llValue = s.llValue := rfl
@[simp] theorem writeHiLo_lldValue (h l : Word) : (writeHiLo h l s).lldValue = s.lldValue := rfl
@[simp] theorem writeHiLo_countZeroTime (h l : Word) : (writeHiLo h l s).countZeroTime = s.countZeroTime := rfl
@[simp] theorem writeHiLo_compareArmed (h l : Word) : (writeHiLo h l s).compareArmed = s.compareArmed := rfl
@[simp] theorem writeHiLo_timerDeadline (h l : Word) : (writeHiLo h l s).timerDeadline = s.timerDeadline := rfl
@[simp] theorem writeHiLo_tlb (h l : Word) : (writeHiLo h l s).tlb = s.tlb := rfl
@[simp] theorem writeHiLo_mem (h l : Word) : (writeHiLo h l s).mem = s.mem := rfl
@[simp] theorem writeHiLo_cycles (h l : Word) : (writeHiLo h l s).cycles = s.cycles := rfl
@[simp] theorem writeHiLo_steps (h l : Word) : (writeHiLo h l s).steps = s.steps := rfl
@[simp] theorem writeHiLo_inputs (h l : Word) : (writeHiLo h l s).inputs = s.inputs := rfl
@[simp] theorem writeHiLo_draws (h l : Word) : (writeHiLo h l s).draws = s.draws := rfl
@[simp] theorem writeHiLo_cfg (h l : Word) : (writeHiLo h l s).cfg = s.cfg := rfl

/-! `writeProduct32` -/

@[simp] theorem writeProduct32_pc (p : Word) : (writeProduct32 p s).pc = s.pc := rfl
@[simp] theorem writeProduct32_gpr (p : Word) : (writeProduct32 p s).gpr = s.gpr := rfl
@[simp] theorem writeProduct32_branchState (p : Word) : (writeProduct32 p s).branchState = s.branchState := rfl
@[simp] theorem writeProduct32_branchTarget (p : Word) : (writeProduct32 p s).branchTarget = s.branchTarget := rfl
@[simp] theorem writeProduct32_cp0 (p : Word) : (writeProduct32 p s).cp0 = s.cp0 := rfl
@[simp] theorem writeProduct32_ccr0 (p : Word) : (writeProduct32 p s).ccr0 = s.ccr0 := rfl
@[simp] theorem writeProduct32_fpr (p : Word) : (writeProduct32 p s).fpr = s.fpr := rfl
@[simp] theorem writeProduct32_ccr1 (p : Word) : (writeProduct32 p s).ccr1 = s.ccr1 := rfl
@[simp] theorem writeProduct32_fcc (p : Word) : (writeProduct32 p s).fcc = s.fcc := rfl
@[simp] theorem writeProduct32_cc0 (p : Word) : (writeProduct32 p s).cc0 = s.cc0 := rfl
@[simp] theorem writeProduct32_llValue (p : Word) : (writeProduct32 p s).llValue = s.llValue := rfl
@[simp] theorem writeProduct32_lldValue (p : Word) : (writeProduct32 p s).lldValue = s.lldValue := rfl
@[simp] theorem writeProduct32_countZeroTime (p : Word) : (writeProduct32 p s).countZeroTime = s.countZeroTime := rfl
@[simp] theorem writeProduct32_compareArmed (p : Word) : (writeProduct32 p s).compareArmed = s.compareArmed := rfl
@[simp] theorem writeProduct32_timerDeadline (p : Word) : (writeProduct32 p s).timerDeadline = s.timerDeadline := rfl
@[simp] theorem writeProduct32_tlb (p : Word) : (writeProduct32 p s).tlb = s.tlb := rfl
@[simp] theorem writeProduct32_mem (p : Word) : (writeProduct32 p s).mem = s.mem := rfl
@[simp] theorem writeProduct32_cycles (p : Word) : (writeProduct32 p s).cycles = s.cycles := rfl
@[simp] theorem writeProduct32_steps (p : Word) : (writeProduct32 p s).steps = s.steps := rfl
@[simp] theorem writeProduct32_inputs (p : Word) : (writeProduct32 p s).inputs = s.inputs := rfl
@[simp] theorem writeProduct32_draws (p : Word) : (writeProduct32 p s).draws = s.draws := rfl
@[simp] theorem writeProduct32_cfg (p : Word) : (writeProduct32 p s).cfg = s.cfg := rfl

/-! `writeProduct64` -/

@[simp] theorem writeProduct64_pc (p : BitVec 128) : (writeProduct64 p s).pc = s.pc := rfl
@[simp] theorem writeProduct64_gpr (p : BitVec 128) : (writeProduct64 p s).gpr = s.gpr := rfl
@[simp] theorem writeProduct64_branchState (p : BitVec 128) : (writeProduct64 p s).branchState = s.branchState := rfl
@[simp] theorem writeProduct64_branchTarget (p : BitVec 128) : (writeProduct64 p s).branchTarget = s.branchTarget :=
  rfl
@[simp] theorem writeProduct64_cp0 (p : BitVec 128) : (writeProduct64 p s).cp0 = s.cp0 := rfl
@[simp] theorem writeProduct64_ccr0 (p : BitVec 128) : (writeProduct64 p s).ccr0 = s.ccr0 := rfl
@[simp] theorem writeProduct64_fpr (p : BitVec 128) : (writeProduct64 p s).fpr = s.fpr := rfl
@[simp] theorem writeProduct64_ccr1 (p : BitVec 128) : (writeProduct64 p s).ccr1 = s.ccr1 := rfl
@[simp] theorem writeProduct64_fcc (p : BitVec 128) : (writeProduct64 p s).fcc = s.fcc := rfl
@[simp] theorem writeProduct64_cc0 (p : BitVec 128) : (writeProduct64 p s).cc0 = s.cc0 := rfl
@[simp] theorem writeProduct64_llValue (p : BitVec 128) : (writeProduct64 p s).llValue = s.llValue := rfl
@[simp] theorem writeProduct64_lldValue (p : BitVec 128) : (writeProduct64 p s).lldValue = s.lldValue := rfl
@[simp] theorem writeProduct64_countZeroTime (p : BitVec 128) :
    (writeProduct64 p s).countZeroTime = s.countZeroTime :=
  rfl
@[simp] theorem writeProduct64_compareArmed (p : BitVec 128) : (writeProduct64 p s).compareArmed = s.compareArmed :=
  rfl
@[simp] theorem writeProduct64_timerDeadline (p : BitVec 128) :
    (writeProduct64 p s).timerDeadline = s.timerDeadline :=
  rfl
@[simp] theorem writeProduct64_tlb (p : BitVec 128) : (writeProduct64 p s).tlb = s.tlb := rfl
@[simp] theorem writeProduct64_mem (p : BitVec 128) : (writeProduct64 p s).mem = s.mem := rfl
@[simp] theorem writeProduct64_cycles (p : BitVec 128) : (writeProduct64 p s).cycles = s.cycles := rfl
@[simp] theorem writeProduct64_steps (p : BitVec 128) : (writeProduct64 p s).steps = s.steps := rfl
@[simp] theorem writeProduct64_inputs (p : BitVec 128) : (writeProduct64 p s).inputs = s.inputs := rfl
@[simp] theorem writeProduct64_draws (p : BitVec 128) : (writeProduct64 p s).draws = s.draws := rfl
@[simp] theorem writeProduct64_cfg (p : BitVec 128) : (writeProduct64 p s).cfg = s.cfg := rfl

/-! `drawHiLo` -/

@[simp] theorem drawHiLo_pc : (drawHiLo s).pc = s.pc := rfl
@[simp] theorem drawHiLo_gpr : (drawHiLo s).gpr = s.gpr := rfl
@[simp] theorem drawHiLo_branchState : (drawHiLo s).branchState = s.branchState := rfl
@[simp] theorem drawHiLo_branchTarget : (drawHiLo s).branchTarget = s.branchTarget := rfl
@[simp] theorem drawHiLo_cp0 : (drawHiLo s).cp0 = s.cp0 := rfl
@[simp] theorem drawHiLo_ccr0 : (drawHiLo s).ccr0 = s.ccr0 := rfl
@[simp] theorem drawHiLo_fpr : (drawHiLo s).fpr = s.fpr := rfl
@[simp] theorem drawHiLo_ccr1 : (drawHiLo s).ccr1 = s.ccr1 := rfl
@[simp] theorem drawHiLo_fcc : (drawHiLo s).fcc = s.fcc := rfl
@[simp] theorem drawHiLo_cc0 : (drawHiLo s).cc0 = s.cc0 := rfl
@[simp] theorem drawHiLo_llValue : (drawHiLo s).llValue = s.llValue := rfl
@[simp] theorem drawHiLo_lldValue : (drawHiLo s).lldValue = s.lldValue := rfl
@[simp] theorem drawHiLo_countZeroTime : (drawHiLo s).countZeroTime = s.countZeroTime := rfl
@[simp] theorem drawHiLo_compareArmed : (drawHiLo s).compareArmed = s.compareArmed := rfl
@[simp] theorem drawHiLo_timerDeadline : (drawHiLo s).timerDeadline = s.timerDeadline := rfl
@[simp] theorem drawHiLo_tlb : (drawHiLo s).tlb = s.tlb := rfl
@[simp] theorem drawHiLo_mem : (drawHiLo s).mem = s.mem := rfl
@[simp] theorem drawHiLo_cycles : (drawHiLo s).cycles = s.cycles := rfl
@[simp] theorem drawHiLo_steps : (drawHiLo s).steps = s.steps := rfl
@[simp] theorem drawHiLo_inputs : (drawHiLo s).inputs = s.inputs := rfl
@[simp] theorem drawHiLo_cfg : (drawHiLo s).cfg = s.cfg := rfl

/-! `writeDivision32` -/

@[simp] theorem writeDivision32_pc (d q r : Word32) :
    (writeDivision32 d q r s).pc = s.pc := by unfold writeDivision32; split <;> rfl
@[simp] theorem writeDivision32_gpr (d q r : Word32) :
    (writeDivision32 d q r s).gpr = s.gpr := by unfold writeDivision32; split <;> rfl
@[simp] theorem writeDivision32_branchState (d q r : Word32) :
    (writeDivision32 d q r s).branchState = s.branchState := by unfold writeDivision32; split <;> rfl
@[simp] theorem writeDivision32_branchTarget (d q r : Word32) :
    (writeDivision32 d q r s).branchTarget = s.branchTarget := by unfold writeDivision32; split <;> rfl
@[simp] theorem writeDivision32_cp0 (d q r : Word32) :
    (writeDivision32 d q r s).cp0 = s.cp0 := by unfold writeDivision32; split <;> rfl
@[simp] theorem writeDivision32_ccr0 (d q r : Word32) :
    (writeDivision32 d q r s).ccr0 = s.ccr0 := by unfold writeDivision32; split <;> rfl
@[simp] theorem writeDivision32_fpr (d q r : Word32) :
    (writeDivision32 d q r s).fpr = s.fpr := by unfold writeDivision32; split <;> rfl
@[simp] theorem writeDivision32_ccr1 (d q r : Word32) :
    (writeDivision32 d q r s).ccr1 = s.ccr1 := by unfold writeDivision32; split <;> rfl
@[simp] theorem writeDivision32_fcc (d q r : Word32) :
    (writeDivision32 d q r s).fcc = s.fcc := by unfold writeDivision32; split <;> rfl
@[simp] theorem writeDivision32_cc0 (d q r : Word32) :
    (writeDivision32 d q r s).cc0 = s.cc0 := by unfold writeDivision32; split <;> rfl
@[simp] theorem writeDivision32_llValue (d q r : Word32) :
    (writeDivision32 d q r s).llValue = s.llValue := by unfold writeDivision32; split <;> rfl
@[simp] theorem writeDivision32_lldValue (d q r : Word32) :
    (writeDivision32 d q r s).lldValue = s.lldValue := by unfold writeDivision32; split <;> rfl
@[simp] theorem writeDivision32_countZeroTime (d q r : Word32) :
    (writeDivision32 d q r s).countZeroTime = s.countZeroTime := by unfold writeDivision32; split <;> rfl
@[simp] theorem writeDivision32_compareArmed (d q r : Word32) :
    (writeDivision32 d q r s).compareArmed = s.compareArmed := by unfold writeDivision32; split <;> rfl
@[simp] theorem writeDivision32_timerDeadline (d q r : Word32) :
    (writeDivision32 d q r s).timerDeadline = s.timerDeadline := by unfold writeDivision32; split <;> rfl
@[simp] theorem writeDivision32_tlb (d q r : Word32) :
    (writeDivision32 d q r s).tlb = s.tlb := by unfold writeDivision32; split <;> rfl
@[simp] theorem writeDivision32_mem (d q r : Word32) :
    (writeDivision32 d q r s).mem = s.mem := by unfold writeDivision32; split <;> rfl
@[simp] theorem writeDivision32_cycles (d q r : Word32) :
    (writeDivision32 d q r s).cycles = s.cycles := by unfold writeDivision32; split <;> rfl
@[simp] theorem writeDivision32_steps (d q r : Word32) :
    (writeDivision32 d q r s).steps = s.steps := by unfold writeDivision32; split <;> rfl
@[simp] theorem writeDivision32_inputs (d q r : Word32) :
    (writeDivision32 d q r s).inputs = s.inputs := by unfold writeDivision32; split <;> rfl
@[simp] theorem writeDivision32_cfg (d q r : Word32) :
    (writeDivision32 d q r s).cfg = s.cfg := by unfold writeDivision32; split <;> rfl

/-! `writeDivision64` -/

@[simp] theorem writeDivision64_pc (d q r : Word) :
    (writeDivision64 d q r s).pc = s.pc := by unfold writeDivision64; split <;> rfl
@[simp] theorem writeDivision64_gpr (d q r : Word) :
    (writeDivision64 d q r s).gpr = s.gpr := by unfold writeDivision64; split <;> rfl
@[simp] theorem writeDivision64_branchState (d q r : Word) :
    (writeDivision64 d q r s).branchState = s.branchState := by unfold writeDivision64; split <;> rfl
@[simp] theorem writeDivision64_branchTarget (d q r : Word) :
    (writeDivision64 d q r s).branchTarget = s.branchTarget := by unfold writeDivision64; split <;> rfl
@[simp] theorem writeDivision64_cp0 (d q r : Word) :
    (writeDivision64 d q r s).cp0 = s.cp0 := by unfold writeDivision64; split <;> rfl
@[simp] theorem writeDivision64_ccr0 (d q r : Word) :
    (writeDivision64 d q r s).ccr0 = s.ccr0 := by unfold writeDivision64; split <;> rfl
@[simp] theorem writeDivision64_fpr (d q r : Word) :
    (writeDivision64 d q r s).fpr = s.fpr := by unfold writeDivision64; split <;> rfl
@[simp] theorem writeDivision64_ccr1 (d q r : Word) :
    (writeDivision64 d q r s).ccr1 = s.ccr1 := by unfold writeDivision64; split <;> rfl
@[simp] theorem writeDivision64_fcc (d q r : Word) :
    (writeDivision64 d q r s).fcc = s.fcc := by unfold writeDivision64; split <;> rfl
@[simp] theorem writeDivision64_cc0 (d q r : Word) :
    (writeDivision64 d q r s).cc0 = s.cc0 := by unfold writeDivision64; split <;> rfl
@[simp] theorem writeDivision64_llValue (d q r : Word) :
    (writeDivision64 d q r s).llValue = s.llValue := by unfold writeDivision64; split <;> rfl
@[simp] theorem writeDivision64_lldValue (d q r : Word) :
    (writeDivision64 d q r s).lldValue = s.lldValue := by unfold writeDivision64; split <;> rfl
@[simp] theorem writeDivision64_countZeroTime (d q r : Word) :
    (writeDivision64 d q r s).countZeroTime = s.countZeroTime := by unfold writeDivision64; split <;> rfl
@[simp] theorem writeDivision64_compareArmed (d q r : Word) :
    (writeDivision64 d q r s).compareArmed = s.compareArmed := by unfold writeDivision64; split <;> rfl
@[simp] theorem writeDivision64_timerDeadline (d q r : Word) :
    (writeDivision64 d q r s).timerDeadline = s.timerDeadline := by unfold writeDivision64; split <;> rfl
@[simp] theorem writeDivision64_tlb (d q r : Word) :
    (writeDivision64 d q r s).tlb = s.tlb := by unfold writeDivision64; split <;> rfl
@[simp] theorem writeDivision64_mem (d q r : Word) :
    (writeDivision64 d q r s).mem = s.mem := by unfold writeDivision64; split <;> rfl
@[simp] theorem writeDivision64_cycles (d q r : Word) :
    (writeDivision64 d q r s).cycles = s.cycles := by unfold writeDivision64; split <;> rfl
@[simp] theorem writeDivision64_steps (d q r : Word) :
    (writeDivision64 d q r s).steps = s.steps := by unfold writeDivision64; split <;> rfl
@[simp] theorem writeDivision64_inputs (d q r : Word) :
    (writeDivision64 d q r s).inputs = s.inputs := by unfold writeDivision64; split <;> rfl
@[simp] theorem writeDivision64_cfg (d q r : Word) :
    (writeDivision64 d q r s).cfg = s.cfg := by unfold writeDivision64; split <;> rfl

/-! `writeFpr64` -/

@[simp] theorem writeFpr64_pc (n : Reg) (v : Word) : (writeFpr64 n v s).pc = s.pc := rfl
@[simp] theorem writeFpr64_gpr (n : Reg) (v : Word) : (writeFpr64 n v s).gpr = s.gpr := rfl
@[simp] theorem writeFpr64_hi (n : Reg) (v : Word) : (writeFpr64 n v s).hi = s.hi := rfl
@[simp] theorem writeFpr64_lo (n : Reg) (v : Word) : (writeFpr64 n v s).lo = s.lo := rfl
@[simp] theorem writeFpr64_branchState (n : Reg) (v : Word) : (writeFpr64 n v s).branchState = s.branchState := rfl
@[simp] theorem writeFpr64_branchTarget (n : Reg) (v : Word) : (writeFpr64 n v s).branchTarget = s.branchTarget := rfl
@[simp] theorem writeFpr64_cp0 (n : Reg) (v : Word) : (writeFpr64 n v s).cp0 = s.cp0 := rfl
@[simp] theorem writeFpr64_ccr0 (n : Reg) (v : Word) : (writeFpr64 n v s).ccr0 = s.ccr0 := rfl
@[simp] theorem writeFpr64_ccr1 (n : Reg) (v : Word) : (writeFpr64 n v s).ccr1 = s.ccr1 := rfl
@[simp] theorem writeFpr64_fcc (n : Reg) (v : Word) : (writeFpr64 n v s).fcc = s.fcc := rfl
@[simp] theorem writeFpr64_cc0 (n : Reg) (v : Word) : (writeFpr64 n v s).cc0 = s.cc0 := rfl
@[simp] theorem writeFpr64_llValue (n : Reg) (v : Word) : (writeFpr64 n v s).llValue = s.llValue := rfl
@[simp] theorem writeFpr64_lldValue (n : Reg) (v : Word) : (writeFpr64 n v s).lldValue = s.lldValue := rfl
@[simp] theorem writeFpr64_countZeroTime (n : Reg) (v : Word) : (writeFpr64 n v s).countZeroTime = s.countZeroTime :=
  rfl
@[simp] theorem writeFpr64_compareArmed (n : Reg) (v : Word) : (writeFpr64 n v s).compareArmed = s.compareArmed := rfl
@[simp] theorem writeFpr64_timerDeadline (n : Reg) (v : Word) : (writeFpr64 n v s).timerDeadline = s.timerDeadline :=
  rfl
@[simp] theorem writeFpr64_tlb (n : Reg) (v : Word) : (writeFpr64 n v s).tlb = s.tlb := rfl
@[simp] theorem writeFpr64_mem (n : Reg) (v : Word) : (writeFpr64 n v s).mem = s.mem := rfl
@[simp] theorem writeFpr64_cycles (n : Reg) (v : Word) : (writeFpr64 n v s).cycles = s.cycles := rfl
@[simp] theorem writeFpr64_steps (n : Reg) (v : Word) : (writeFpr64 n v s).steps = s.steps := rfl
@[simp] theorem writeFpr64_inputs (n : Reg) (v : Word) : (writeFpr64 n v s).inputs = s.inputs := rfl
@[simp] theorem writeFpr64_draws (n : Reg) (v : Word) : (writeFpr64 n v s).draws = s.draws := rfl
@[simp] theorem writeFpr64_cfg (n : Reg) (v : Word) : (writeFpr64 n v s).cfg = s.cfg := rfl

/-! `writeFpr32` -/

@[simp] theorem writeFpr32_pc (n : Reg) (v : Word32) : (writeFpr32 n v s).pc = s.pc := rfl
@[simp] theorem writeFpr32_gpr (n : Reg) (v : Word32) : (writeFpr32 n v s).gpr = s.gpr := rfl
@[simp] theorem writeFpr32_hi (n : Reg) (v : Word32) : (writeFpr32 n v s).hi = s.hi := rfl
@[simp] theorem writeFpr32_lo (n : Reg) (v : Word32) : (writeFpr32 n v s).lo = s.lo := rfl
@[simp] theorem writeFpr32_branchState (n : Reg) (v : Word32) : (writeFpr32 n v s).branchState = s.branchState := rfl
@[simp] theorem writeFpr32_branchTarget (n : Reg) (v : Word32) : (writeFpr32 n v s).branchTarget = s.branchTarget :=
  rfl
@[simp] theorem writeFpr32_cp0 (n : Reg) (v : Word32) : (writeFpr32 n v s).cp0 = s.cp0 := rfl
@[simp] theorem writeFpr32_ccr0 (n : Reg) (v : Word32) : (writeFpr32 n v s).ccr0 = s.ccr0 := rfl
@[simp] theorem writeFpr32_ccr1 (n : Reg) (v : Word32) : (writeFpr32 n v s).ccr1 = s.ccr1 := rfl
@[simp] theorem writeFpr32_fcc (n : Reg) (v : Word32) : (writeFpr32 n v s).fcc = s.fcc := rfl
@[simp] theorem writeFpr32_cc0 (n : Reg) (v : Word32) : (writeFpr32 n v s).cc0 = s.cc0 := rfl
@[simp] theorem writeFpr32_llValue (n : Reg) (v : Word32) : (writeFpr32 n v s).llValue = s.llValue := rfl
@[simp] theorem writeFpr32_lldValue (n : Reg) (v : Word32) : (writeFpr32 n v s).lldValue = s.lldValue := rfl
@[simp] theorem writeFpr32_countZeroTime (n : Reg) (v : Word32) :
    (writeFpr32 n v s).countZeroTime = s.countZeroTime :=
  rfl
@[simp] theorem writeFpr32_compareArmed (n : Reg) (v : Word32) : (writeFpr32 n v s).compareArmed = s.compareArmed :=
  rfl
@[simp] theorem writeFpr32_timerDeadline (n : Reg) (v : Word32) :
    (writeFpr32 n v s).timerDeadline = s.timerDeadline :=
  rfl
@[simp] theorem writeFpr32_tlb (n : Reg) (v : Word32) : (writeFpr32 n v s).tlb = s.tlb := rfl
@[simp] theorem writeFpr32_mem (n : Reg) (v : Word32) : (writeFpr32 n v s).mem = s.mem := rfl
@[simp] theorem writeFpr32_cycles (n : Reg) (v : Word32) : (writeFpr32 n v s).cycles = s.cycles := rfl
@[simp] theorem writeFpr32_steps (n : Reg) (v : Word32) : (writeFpr32 n v s).steps = s.steps := rfl
@[simp] theorem writeFpr32_inputs (n : Reg) (v : Word32) : (writeFpr32 n v s).inputs = s.inputs := rfl
@[simp] theorem writeFpr32_draws (n : Reg) (v : Word32) : (writeFpr32 n v s).draws = s.draws := rfl
@[simp] theorem writeFpr32_cfg (n : Reg) (v : Word32) : (writeFpr32 n v s).cfg = s.cfg := rfl

/-! `writeResult32` -/

@[simp] theorem writeResult32_pc (n : Reg) (v : Option Word32) : (writeResult32 n v s).pc = s.pc := by cases v <;> rfl
@[simp] theorem writeResult32_gpr (n : Reg) (v : Option Word32) :
    (writeResult32 n v s).gpr = s.gpr := by cases v <;> rfl
@[simp] theorem writeResult32_hi (n : Reg) (v : Option Word32) : (writeResult32 n v s).hi = s.hi := by cases v <;> rfl
@[simp] theorem writeResult32_lo (n : Reg) (v : Option Word32) : (writeResult32 n v s).lo = s.lo := by cases v <;> rfl
@[simp] theorem writeResult32_branchState (n : Reg) (v : Option Word32) :
    (writeResult32 n v s).branchState = s.branchState := by cases v <;> rfl
@[simp] theorem writeResult32_branchTarget (n : Reg) (v : Option Word32) :
    (writeResult32 n v s).branchTarget = s.branchTarget := by cases v <;> rfl
@[simp] theorem writeResult32_cp0 (n : Reg) (v : Option Word32) :
    (writeResult32 n v s).cp0 = s.cp0 := by cases v <;> rfl
@[simp] theorem writeResult32_ccr0 (n : Reg) (v : Option Word32) :
    (writeResult32 n v s).ccr0 = s.ccr0 := by cases v <;> rfl
@[simp] theorem writeResult32_ccr1 (n : Reg) (v : Option Word32) :
    (writeResult32 n v s).ccr1 = s.ccr1 := by cases v <;> rfl
@[simp] theorem writeResult32_fcc (n : Reg) (v : Option Word32) :
    (writeResult32 n v s).fcc = s.fcc := by cases v <;> rfl
@[simp] theorem writeResult32_cc0 (n : Reg) (v : Option Word32) :
    (writeResult32 n v s).cc0 = s.cc0 := by cases v <;> rfl
@[simp] theorem writeResult32_llValue (n : Reg) (v : Option Word32) :
    (writeResult32 n v s).llValue = s.llValue := by cases v <;> rfl
@[simp] theorem writeResult32_lldValue (n : Reg) (v : Option Word32) :
    (writeResult32 n v s).lldValue = s.lldValue := by cases v <;> rfl
@[simp] theorem writeResult32_countZeroTime (n : Reg) (v : Option Word32) :
    (writeResult32 n v s).countZeroTime = s.countZeroTime := by cases v <;> rfl
@[simp] theorem writeResult32_compareArmed (n : Reg) (v : Option Word32) :
    (writeResult32 n v s).compareArmed = s.compareArmed := by cases v <;> rfl
@[simp] theorem writeResult32_timerDeadline (n : Reg) (v : Option Word32) :
    (writeResult32 n v s).timerDeadline = s.timerDeadline := by cases v <;> rfl
@[simp] theorem writeResult32_tlb (n : Reg) (v : Option Word32) :
    (writeResult32 n v s).tlb = s.tlb := by cases v <;> rfl
@[simp] theorem writeResult32_mem (n : Reg) (v : Option Word32) :
    (writeResult32 n v s).mem = s.mem := by cases v <;> rfl
@[simp] theorem writeResult32_cycles (n : Reg) (v : Option Word32) :
    (writeResult32 n v s).cycles = s.cycles := by cases v <;> rfl
@[simp] theorem writeResult32_steps (n : Reg) (v : Option Word32) :
    (writeResult32 n v s).steps = s.steps := by cases v <;> rfl
@[simp] theorem writeResult32_inputs (n : Reg) (v : Option Word32) :
    (writeResult32 n v s).inputs = s.inputs := by cases v <;> rfl
@[simp] theorem writeResult32_cfg (n : Reg) (v : Option Word32) :
    (writeResult32 n v s).cfg = s.cfg := by cases v <;> rfl

/-! `writeResult64` -/

@[simp] theorem writeResult64_pc (n : Reg) (v : Option Word) : (writeResult64 n v s).pc = s.pc := by cases v <;> rfl
@[simp] theorem writeResult64_gpr (n : Reg) (v : Option Word) :
    (writeResult64 n v s).gpr = s.gpr := by cases v <;> rfl
@[simp] theorem writeResult64_hi (n : Reg) (v : Option Word) : (writeResult64 n v s).hi = s.hi := by cases v <;> rfl
@[simp] theorem writeResult64_lo (n : Reg) (v : Option Word) : (writeResult64 n v s).lo = s.lo := by cases v <;> rfl
@[simp] theorem writeResult64_branchState (n : Reg) (v : Option Word) :
    (writeResult64 n v s).branchState = s.branchState := by cases v <;> rfl
@[simp] theorem writeResult64_branchTarget (n : Reg) (v : Option Word) :
    (writeResult64 n v s).branchTarget = s.branchTarget := by cases v <;> rfl
@[simp] theorem writeResult64_cp0 (n : Reg) (v : Option Word) :
    (writeResult64 n v s).cp0 = s.cp0 := by cases v <;> rfl
@[simp] theorem writeResult64_ccr0 (n : Reg) (v : Option Word) :
    (writeResult64 n v s).ccr0 = s.ccr0 := by cases v <;> rfl
@[simp] theorem writeResult64_ccr1 (n : Reg) (v : Option Word) :
    (writeResult64 n v s).ccr1 = s.ccr1 := by cases v <;> rfl
@[simp] theorem writeResult64_fcc (n : Reg) (v : Option Word) :
    (writeResult64 n v s).fcc = s.fcc := by cases v <;> rfl
@[simp] theorem writeResult64_cc0 (n : Reg) (v : Option Word) :
    (writeResult64 n v s).cc0 = s.cc0 := by cases v <;> rfl
@[simp] theorem writeResult64_llValue (n : Reg) (v : Option Word) :
    (writeResult64 n v s).llValue = s.llValue := by cases v <;> rfl
@[simp] theorem writeResult64_lldValue (n : Reg) (v : Option Word) :
    (writeResult64 n v s).lldValue = s.lldValue := by cases v <;> rfl
@[simp] theorem writeResult64_countZeroTime (n : Reg) (v : Option Word) :
    (writeResult64 n v s).countZeroTime = s.countZeroTime := by cases v <;> rfl
@[simp] theorem writeResult64_compareArmed (n : Reg) (v : Option Word) :
    (writeResult64 n v s).compareArmed = s.compareArmed := by cases v <;> rfl
@[simp] theorem writeResult64_timerDeadline (n : Reg) (v : Option Word) :
    (writeResult64 n v s).timerDeadline = s.timerDeadline := by cases v <;> rfl
@[simp] theorem writeResult64_tlb (n : Reg) (v : Option Word) :
    (writeResult64 n v s).tlb = s.tlb := by cases v <;> rfl
@[simp] theorem writeResult64_mem (n : Reg) (v : Option Word) :
    (writeResult64 n v s).mem = s.mem := by cases v <;> rfl
@[simp] theorem writeResult64_cycles (n : Reg) (v : Option Word) :
    (writeResult64 n v s).cycles = s.cycles := by cases v <;> rfl
@[simp] theorem writeResult64_steps (n : Reg) (v : Option Word) :
    (writeResult64 n v s).steps = s.steps := by cases v <;> rfl
@[simp] theorem writeResult64_inputs (n : Reg) (v : Option Word) :
    (writeResult64 n v s).inputs = s.inputs := by cases v <;> rfl
@[simp] theorem writeResult64_cfg (n : Reg) (v : Option Word) :
    (writeResult64 n v s).cfg = s.cfg := by cases v <;> rfl

/-! `writeFcc` -/

@[simp] theorem writeFcc_pc (n : Nat) (b : Bool) : (writeFcc n b s).pc = s.pc := rfl
@[simp] theorem writeFcc_gpr (n : Nat) (b : Bool) : (writeFcc n b s).gpr = s.gpr := rfl
@[simp] theorem writeFcc_hi (n : Nat) (b : Bool) : (writeFcc n b s).hi = s.hi := rfl
@[simp] theorem writeFcc_lo (n : Nat) (b : Bool) : (writeFcc n b s).lo = s.lo := rfl
@[simp] theorem writeFcc_branchState (n : Nat) (b : Bool) : (writeFcc n b s).branchState = s.branchState := rfl
@[simp] theorem writeFcc_branchTarget (n : Nat) (b : Bool) : (writeFcc n b s).branchTarget = s.branchTarget := rfl
@[simp] theorem writeFcc_cp0 (n : Nat) (b : Bool) : (writeFcc n b s).cp0 = s.cp0 := rfl
@[simp] theorem writeFcc_ccr0 (n : Nat) (b : Bool) : (writeFcc n b s).ccr0 = s.ccr0 := rfl
@[simp] theorem writeFcc_fpr (n : Nat) (b : Bool) : (writeFcc n b s).fpr = s.fpr := rfl
@[simp] theorem writeFcc_ccr1 (n : Nat) (b : Bool) : (writeFcc n b s).ccr1 = s.ccr1 := rfl
@[simp] theorem writeFcc_cc0 (n : Nat) (b : Bool) : (writeFcc n b s).cc0 = s.cc0 := rfl
@[simp] theorem writeFcc_llValue (n : Nat) (b : Bool) : (writeFcc n b s).llValue = s.llValue := rfl
@[simp] theorem writeFcc_lldValue (n : Nat) (b : Bool) : (writeFcc n b s).lldValue = s.lldValue := rfl
@[simp] theorem writeFcc_countZeroTime (n : Nat) (b : Bool) : (writeFcc n b s).countZeroTime = s.countZeroTime := rfl
@[simp] theorem writeFcc_compareArmed (n : Nat) (b : Bool) : (writeFcc n b s).compareArmed = s.compareArmed := rfl
@[simp] theorem writeFcc_timerDeadline (n : Nat) (b : Bool) : (writeFcc n b s).timerDeadline = s.timerDeadline := rfl
@[simp] theorem writeFcc_tlb (n : Nat) (b : Bool) : (writeFcc n b s).tlb = s.tlb := rfl
@[simp] theorem writeFcc_mem (n : Nat) (b : Bool) : (writeFcc n b s).mem = s.mem := rfl
@[simp] theorem writeFcc_cycles (n : Nat) (b : Bool) : (writeFcc n b s).cycles = s.cycles := rfl
@[simp] theorem writeFcc_steps (n : Nat) (b : Bool) : (writeFcc n b s).steps = s.steps := rfl
@[simp] theorem writeFcc_inputs (n : Nat) (b : Bool) : (writeFcc n b s).inputs = s.inputs := rfl
@[simp] theorem writeFcc_draws (n : Nat) (b : Bool) : (writeFcc n b s).draws = s.draws := rfl
@[simp] theorem writeFcc_cfg (n : Nat) (b : Bool) : (writeFcc n b s).cfg = s.cfg := rfl

/-! `fcsrWrite` -/

@[simp] theorem fcsrWrite_pc (v : Word32) : (fcsrWrite v s).pc = s.pc := rfl
@[simp] theorem fcsrWrite_gpr (v : Word32) : (fcsrWrite v s).gpr = s.gpr := rfl
@[simp] theorem fcsrWrite_hi (v : Word32) : (fcsrWrite v s).hi = s.hi := rfl
@[simp] theorem fcsrWrite_lo (v : Word32) : (fcsrWrite v s).lo = s.lo := rfl
@[simp] theorem fcsrWrite_branchState (v : Word32) : (fcsrWrite v s).branchState = s.branchState := rfl
@[simp] theorem fcsrWrite_branchTarget (v : Word32) : (fcsrWrite v s).branchTarget = s.branchTarget := rfl
@[simp] theorem fcsrWrite_cp0 (v : Word32) : (fcsrWrite v s).cp0 = s.cp0 := rfl
@[simp] theorem fcsrWrite_ccr0 (v : Word32) : (fcsrWrite v s).ccr0 = s.ccr0 := rfl
@[simp] theorem fcsrWrite_fpr (v : Word32) : (fcsrWrite v s).fpr = s.fpr := rfl
@[simp] theorem fcsrWrite_cc0 (v : Word32) : (fcsrWrite v s).cc0 = s.cc0 := rfl
@[simp] theorem fcsrWrite_llValue (v : Word32) : (fcsrWrite v s).llValue = s.llValue := rfl
@[simp] theorem fcsrWrite_lldValue (v : Word32) : (fcsrWrite v s).lldValue = s.lldValue := rfl
@[simp] theorem fcsrWrite_countZeroTime (v : Word32) : (fcsrWrite v s).countZeroTime = s.countZeroTime := rfl
@[simp] theorem fcsrWrite_compareArmed (v : Word32) : (fcsrWrite v s).compareArmed = s.compareArmed := rfl
@[simp] theorem fcsrWrite_timerDeadline (v : Word32) : (fcsrWrite v s).timerDeadline = s.timerDeadline := rfl
@[simp] theorem fcsrWrite_tlb (v : Word32) : (fcsrWrite v s).tlb = s.tlb := rfl
@[simp] theorem fcsrWrite_mem (v : Word32) : (fcsrWrite v s).mem = s.mem := rfl
@[simp] theorem fcsrWrite_cycles (v : Word32) : (fcsrWrite v s).cycles = s.cycles := rfl
@[simp] theorem fcsrWrite_steps (v : Word32) : (fcsrWrite v s).steps = s.steps := rfl
@[simp] theorem fcsrWrite_inputs (v : Word32) : (fcsrWrite v s).inputs = s.inputs := rfl
@[simp] theorem fcsrWrite_draws (v : Word32) : (fcsrWrite v s).draws = s.draws := rfl
@[simp] theorem fcsrWrite_cfg (v : Word32) : (fcsrWrite v s).cfg = s.cfg := rfl

/-! `writeFpControl` -/

@[simp] theorem writeFpControl_pc (n : Reg) (v : Word32) :
    (writeFpControl n v s).pc = s.pc := by unfold writeFpControl; split <;> [rfl; (split <;> rfl)]
@[simp] theorem writeFpControl_gpr (n : Reg) (v : Word32) :
    (writeFpControl n v s).gpr = s.gpr := by unfold writeFpControl; split <;> [rfl; (split <;> rfl)]
@[simp] theorem writeFpControl_hi (n : Reg) (v : Word32) :
    (writeFpControl n v s).hi = s.hi := by unfold writeFpControl; split <;> [rfl; (split <;> rfl)]
@[simp] theorem writeFpControl_lo (n : Reg) (v : Word32) :
    (writeFpControl n v s).lo = s.lo := by unfold writeFpControl; split <;> [rfl; (split <;> rfl)]
@[simp] theorem writeFpControl_branchState (n : Reg) (v : Word32) :
    (writeFpControl n v s).branchState = s.branchState := by unfold writeFpControl; split <;> [rfl; (split <;> rfl)]
@[simp] theorem writeFpControl_branchTarget (n : Reg) (v : Word32) :
    (writeFpControl n v s).branchTarget = s.branchTarget := by unfold writeFpControl; split <;> [rfl; (split <;> rfl)]
@[simp] theorem writeFpControl_cp0 (n : Reg) (v : Word32) :
    (writeFpControl n v s).cp0 = s.cp0 := by unfold writeFpControl; split <;> [rfl; (split <;> rfl)]
@[simp] theorem writeFpControl_ccr0 (n : Reg) (v : Word32) :
    (writeFpControl n v s).ccr0 = s.ccr0 := by unfold writeFpControl; split <;> [rfl; (split <;> rfl)]
@[simp] theorem writeFpControl_fpr (n : Reg) (v : Word32) :
    (writeFpControl n v s).fpr = s.fpr := by unfold writeFpControl; split <;> [rfl; (split <;> rfl)]
@[simp] theorem writeFpControl_cc0 (n : Reg) (v : Word32) :
    (writeFpControl n v s).cc0 = s.cc0 := by unfold writeFpControl; split <;> [rfl; (split <;> rfl)]
@[simp] theorem writeFpControl_llValue (n : Reg) (v : Word32) :
    (writeFpControl n v s).llValue = s.llValue := by unfold writeFpControl; split <;> [rfl; (split <;> rfl)]
@[simp] theorem writeFpControl_lldValue (n : Reg) (v : Word32) :
    (writeFpControl n v s).lldValue = s.lldValue := by unfold writeFpControl; split <;> [rfl; (split <;> rfl)]
@[simp] theorem writeFpControl_countZeroTime (n : Reg) (v : Word32) :
    (writeFpControl n v s).countZeroTime
      = s.countZeroTime := by unfold writeFpControl; split <;> [rfl; (split <;> rfl)]
@[simp] theorem writeFpControl_compareArmed (n : Reg) (v : Word32) :
    (writeFpControl n v s).compareArmed = s.compareArmed := by unfold writeFpControl; split <;> [rfl; (split <;> rfl)]
@[simp] theorem writeFpControl_timerDeadline (n : Reg) (v : Word32) :
    (writeFpControl n v s).timerDeadline
      = s.timerDeadline := by unfold writeFpControl; split <;> [rfl; (split <;> rfl)]
@[simp] theorem writeFpControl_tlb (n : Reg) (v : Word32) :
    (writeFpControl n v s).tlb = s.tlb := by unfold writeFpControl; split <;> [rfl; (split <;> rfl)]
@[simp] theorem writeFpControl_mem (n : Reg) (v : Word32) :
    (writeFpControl n v s).mem = s.mem := by unfold writeFpControl; split <;> [rfl; (split <;> rfl)]
@[simp] theorem writeFpControl_cycles (n : Reg) (v : Word32) :
    (writeFpControl n v s).cycles = s.cycles := by unfold writeFpControl; split <;> [rfl; (split <;> rfl)]
@[simp] theorem writeFpControl_steps (n : Reg) (v : Word32) :
    (writeFpControl n v s).steps = s.steps := by unfold writeFpControl; split <;> [rfl; (split <;> rfl)]
@[simp] theorem writeFpControl_inputs (n : Reg) (v : Word32) :
    (writeFpControl n v s).inputs = s.inputs := by unfold writeFpControl; split <;> [rfl; (split <;> rfl)]
@[simp] theorem writeFpControl_draws (n : Reg) (v : Word32) :
    (writeFpControl n v s).draws = s.draws := by unfold writeFpControl; split <;> [rfl; (split <;> rfl)]
@[simp] theorem writeFpControl_cfg (n : Reg) (v : Word32) :
    (writeFpControl n v s).cfg = s.cfg := by unfold writeFpControl; split <;> [rfl; (split <;> rfl)]

/-! `rearm` -/

@[simp] theorem rearm_pc : (rearm s).pc = s.pc := rfl
@[simp] theorem rearm_gpr : (rearm s).gpr = s.gpr := rfl
@[simp] theorem rearm_hi : (rearm s).hi = s.hi := rfl
@[simp] theorem rearm_lo : (rearm s).lo = s.lo := rfl
@[simp] theorem rearm_branchState : (rearm s).branchState = s.branchState := rfl
@[simp] theorem rearm_branchTarget : (rearm s).branchTarget = s.branchTarget := rfl
@[simp] theorem rearm_cp0 : (rearm s).cp0 = s.cp0 := rfl
@[simp] theorem rearm_ccr0 : (rearm s).ccr0 = s.ccr0 := rfl
@[simp] theorem rearm_fpr : (rearm s).fpr = s.fpr := rfl
@[simp] theorem rearm_ccr1 : (rearm s).ccr1 = s.ccr1 := rfl
@[simp] theorem rearm_fcc : (rearm s).fcc = s.fcc := rfl
@[simp] theorem rearm_cc0 : (rearm s).cc0 = s.cc0 := rfl
@[simp] theorem rearm_llValue : (rearm s).llValue = s.llValue := rfl
@[simp] theorem rearm_lldValue : (rearm s).lldValue = s.lldValue := rfl
@[simp] theorem rearm_countZeroTime : (rearm s).countZeroTime = s.countZeroTime := rfl
@[simp] theorem rearm_tlb : (rearm s).tlb = s.tlb := rfl
@[simp] theorem rearm_mem : (rearm s).mem = s.mem := rfl
@[simp] theorem rearm_cycles : (rearm s).cycles = s.cycles := rfl
@[simp] theorem rearm_steps : (rearm s).steps = s.steps := rfl
@[simp] theorem rearm_inputs : (rearm s).inputs = s.inputs := rfl
@[simp] theorem rearm_draws : (rearm s).draws = s.draws := rfl
@[simp] theorem rearm_cfg : (rearm s).cfg = s.cfg := rfl

/-! `writeCount` -/

@[simp] theorem writeCount_pc (v : Word32) : (writeCount v s).pc = s.pc := rfl
@[simp] theorem writeCount_gpr (v : Word32) : (writeCount v s).gpr = s.gpr := rfl
@[simp] theorem writeCount_hi (v : Word32) : (writeCount v s).hi = s.hi := rfl
@[simp] theorem writeCount_lo (v : Word32) : (writeCount v s).lo = s.lo := rfl
@[simp] theorem writeCount_branchState (v : Word32) : (writeCount v s).branchState = s.branchState := rfl
@[simp] theorem writeCount_branchTarget (v : Word32) : (writeCount v s).branchTarget = s.branchTarget := rfl
@[simp] theorem writeCount_cp0 (v : Word32) : (writeCount v s).cp0 = s.cp0 := rfl
@[simp] theorem writeCount_ccr0 (v : Word32) : (writeCount v s).ccr0 = s.ccr0 := rfl
@[simp] theorem writeCount_fpr (v : Word32) : (writeCount v s).fpr = s.fpr := rfl
@[simp] theorem writeCount_ccr1 (v : Word32) : (writeCount v s).ccr1 = s.ccr1 := rfl
@[simp] theorem writeCount_fcc (v : Word32) : (writeCount v s).fcc = s.fcc := rfl
@[simp] theorem writeCount_cc0 (v : Word32) : (writeCount v s).cc0 = s.cc0 := rfl
@[simp] theorem writeCount_llValue (v : Word32) : (writeCount v s).llValue = s.llValue := rfl
@[simp] theorem writeCount_lldValue (v : Word32) : (writeCount v s).lldValue = s.lldValue := rfl
@[simp] theorem writeCount_tlb (v : Word32) : (writeCount v s).tlb = s.tlb := rfl
@[simp] theorem writeCount_mem (v : Word32) : (writeCount v s).mem = s.mem := rfl
@[simp] theorem writeCount_cycles (v : Word32) : (writeCount v s).cycles = s.cycles := rfl
@[simp] theorem writeCount_steps (v : Word32) : (writeCount v s).steps = s.steps := rfl
@[simp] theorem writeCount_inputs (v : Word32) : (writeCount v s).inputs = s.inputs := rfl
@[simp] theorem writeCount_draws (v : Word32) : (writeCount v s).draws = s.draws := rfl
@[simp] theorem writeCount_cfg (v : Word32) : (writeCount v s).cfg = s.cfg := rfl

/-! `writeCompare` -/

@[simp] theorem writeCompare_pc (v : Word32) : (writeCompare v s).pc = s.pc := rfl
@[simp] theorem writeCompare_gpr (v : Word32) : (writeCompare v s).gpr = s.gpr := rfl
@[simp] theorem writeCompare_hi (v : Word32) : (writeCompare v s).hi = s.hi := rfl
@[simp] theorem writeCompare_lo (v : Word32) : (writeCompare v s).lo = s.lo := rfl
@[simp] theorem writeCompare_branchState (v : Word32) : (writeCompare v s).branchState = s.branchState := rfl
@[simp] theorem writeCompare_branchTarget (v : Word32) : (writeCompare v s).branchTarget = s.branchTarget := rfl
@[simp] theorem writeCompare_ccr0 (v : Word32) : (writeCompare v s).ccr0 = s.ccr0 := rfl
@[simp] theorem writeCompare_fpr (v : Word32) : (writeCompare v s).fpr = s.fpr := rfl
@[simp] theorem writeCompare_ccr1 (v : Word32) : (writeCompare v s).ccr1 = s.ccr1 := rfl
@[simp] theorem writeCompare_fcc (v : Word32) : (writeCompare v s).fcc = s.fcc := rfl
@[simp] theorem writeCompare_cc0 (v : Word32) : (writeCompare v s).cc0 = s.cc0 := rfl
@[simp] theorem writeCompare_llValue (v : Word32) : (writeCompare v s).llValue = s.llValue := rfl
@[simp] theorem writeCompare_lldValue (v : Word32) : (writeCompare v s).lldValue = s.lldValue := rfl
@[simp] theorem writeCompare_countZeroTime (v : Word32) : (writeCompare v s).countZeroTime = s.countZeroTime := rfl
@[simp] theorem writeCompare_tlb (v : Word32) : (writeCompare v s).tlb = s.tlb := rfl
@[simp] theorem writeCompare_mem (v : Word32) : (writeCompare v s).mem = s.mem := rfl
@[simp] theorem writeCompare_cycles (v : Word32) : (writeCompare v s).cycles = s.cycles := rfl
@[simp] theorem writeCompare_steps (v : Word32) : (writeCompare v s).steps = s.steps := rfl
@[simp] theorem writeCompare_inputs (v : Word32) : (writeCompare v s).inputs = s.inputs := rfl
@[simp] theorem writeCompare_draws (v : Word32) : (writeCompare v s).draws = s.draws := rfl
@[simp] theorem writeCompare_cfg (v : Word32) : (writeCompare v s).cfg = s.cfg := rfl

/-! `timerCheck` -/

@[simp] theorem timerCheck_pc : (timerCheck s).pc = s.pc := by unfold timerCheck; split <;> rfl
@[simp] theorem timerCheck_gpr : (timerCheck s).gpr = s.gpr := by unfold timerCheck; split <;> rfl
@[simp] theorem timerCheck_hi : (timerCheck s).hi = s.hi := by unfold timerCheck; split <;> rfl
@[simp] theorem timerCheck_lo : (timerCheck s).lo = s.lo := by unfold timerCheck; split <;> rfl
@[simp] theorem timerCheck_branchState :
    (timerCheck s).branchState = s.branchState := by unfold timerCheck; split <;> rfl
@[simp] theorem timerCheck_branchTarget :
    (timerCheck s).branchTarget = s.branchTarget := by unfold timerCheck; split <;> rfl
@[simp] theorem timerCheck_ccr0 : (timerCheck s).ccr0 = s.ccr0 := by unfold timerCheck; split <;> rfl
@[simp] theorem timerCheck_fpr : (timerCheck s).fpr = s.fpr := by unfold timerCheck; split <;> rfl
@[simp] theorem timerCheck_ccr1 : (timerCheck s).ccr1 = s.ccr1 := by unfold timerCheck; split <;> rfl
@[simp] theorem timerCheck_fcc : (timerCheck s).fcc = s.fcc := by unfold timerCheck; split <;> rfl
@[simp] theorem timerCheck_cc0 : (timerCheck s).cc0 = s.cc0 := by unfold timerCheck; split <;> rfl
@[simp] theorem timerCheck_llValue : (timerCheck s).llValue = s.llValue := by unfold timerCheck; split <;> rfl
@[simp] theorem timerCheck_lldValue : (timerCheck s).lldValue = s.lldValue := by unfold timerCheck; split <;> rfl
@[simp] theorem timerCheck_countZeroTime :
    (timerCheck s).countZeroTime = s.countZeroTime := by unfold timerCheck; split <;> rfl
@[simp] theorem timerCheck_compareArmed :
    (timerCheck s).compareArmed = s.compareArmed := by unfold timerCheck; split <;> rfl
@[simp] theorem timerCheck_tlb : (timerCheck s).tlb = s.tlb := by unfold timerCheck; split <;> rfl
@[simp] theorem timerCheck_mem : (timerCheck s).mem = s.mem := by unfold timerCheck; split <;> rfl
@[simp] theorem timerCheck_cycles : (timerCheck s).cycles = s.cycles := by unfold timerCheck; split <;> rfl
@[simp] theorem timerCheck_steps : (timerCheck s).steps = s.steps := by unfold timerCheck; split <;> rfl
@[simp] theorem timerCheck_inputs : (timerCheck s).inputs = s.inputs := by unfold timerCheck; split <;> rfl
@[simp] theorem timerCheck_draws : (timerCheck s).draws = s.draws := by unfold timerCheck; split <;> rfl
@[simp] theorem timerCheck_cfg : (timerCheck s).cfg = s.cfg := by unfold timerCheck; split <;> rfl

/-! `cp0Write` -/

@[simp] theorem cp0Write_pc (n : Reg) (v : Word) :
    (cp0Write n v s).pc = s.pc := by unfold cp0Write; split <;> [rfl; (split <;> rfl)]
@[simp] theorem cp0Write_gpr (n : Reg) (v : Word) :
    (cp0Write n v s).gpr = s.gpr := by unfold cp0Write; split <;> [rfl; (split <;> rfl)]
@[simp] theorem cp0Write_hi (n : Reg) (v : Word) :
    (cp0Write n v s).hi = s.hi := by unfold cp0Write; split <;> [rfl; (split <;> rfl)]
@[simp] theorem cp0Write_lo (n : Reg) (v : Word) :
    (cp0Write n v s).lo = s.lo := by unfold cp0Write; split <;> [rfl; (split <;> rfl)]
@[simp] theorem cp0Write_branchState (n : Reg) (v : Word) :
    (cp0Write n v s).branchState = s.branchState := by unfold cp0Write; split <;> [rfl; (split <;> rfl)]
@[simp] theorem cp0Write_branchTarget (n : Reg) (v : Word) :
    (cp0Write n v s).branchTarget = s.branchTarget := by unfold cp0Write; split <;> [rfl; (split <;> rfl)]
@[simp] theorem cp0Write_ccr0 (n : Reg) (v : Word) :
    (cp0Write n v s).ccr0 = s.ccr0 := by unfold cp0Write; split <;> [rfl; (split <;> rfl)]
@[simp] theorem cp0Write_fpr (n : Reg) (v : Word) :
    (cp0Write n v s).fpr = s.fpr := by unfold cp0Write; split <;> [rfl; (split <;> rfl)]
@[simp] theorem cp0Write_ccr1 (n : Reg) (v : Word) :
    (cp0Write n v s).ccr1 = s.ccr1 := by unfold cp0Write; split <;> [rfl; (split <;> rfl)]
@[simp] theorem cp0Write_fcc (n : Reg) (v : Word) :
    (cp0Write n v s).fcc = s.fcc := by unfold cp0Write; split <;> [rfl; (split <;> rfl)]
@[simp] theorem cp0Write_cc0 (n : Reg) (v : Word) :
    (cp0Write n v s).cc0 = s.cc0 := by unfold cp0Write; split <;> [rfl; (split <;> rfl)]
@[simp] theorem cp0Write_llValue (n : Reg) (v : Word) :
    (cp0Write n v s).llValue = s.llValue := by unfold cp0Write; split <;> [rfl; (split <;> rfl)]
@[simp] theorem cp0Write_lldValue (n : Reg) (v : Word) :
    (cp0Write n v s).lldValue = s.lldValue := by unfold cp0Write; split <;> [rfl; (split <;> rfl)]
@[simp] theorem cp0Write_tlb (n : Reg) (v : Word) :
    (cp0Write n v s).tlb = s.tlb := by unfold cp0Write; split <;> [rfl; (split <;> rfl)]
@[simp] theorem cp0Write_mem (n : Reg) (v : Word) :
    (cp0Write n v s).mem = s.mem := by unfold cp0Write; split <;> [rfl; (split <;> rfl)]
@[simp] theorem cp0Write_cycles (n : Reg) (v : Word) :
    (cp0Write n v s).cycles = s.cycles := by unfold cp0Write; split <;> [rfl; (split <;> rfl)]
@[simp] theorem cp0Write_steps (n : Reg) (v : Word) :
    (cp0Write n v s).steps = s.steps := by unfold cp0Write; split <;> [rfl; (split <;> rfl)]
@[simp] theorem cp0Write_inputs (n : Reg) (v : Word) :
    (cp0Write n v s).inputs = s.inputs := by unfold cp0Write; split <;> [rfl; (split <;> rfl)]
@[simp] theorem cp0Write_draws (n : Reg) (v : Word) :
    (cp0Write n v s).draws = s.draws := by unfold cp0Write; split <;> [rfl; (split <;> rfl)]
@[simp] theorem cp0Write_cfg (n : Reg) (v : Word) :
    (cp0Write n v s).cfg = s.cfg := by unfold cp0Write; split <;> [rfl; (split <;> rfl)]

/-! `writeEntry` -/

@[simp] theorem writeEntry_pc (i : Nat) : (writeEntry i s).pc = s.pc := by unfold writeEntry; split <;> rfl
@[simp] theorem writeEntry_gpr (i : Nat) : (writeEntry i s).gpr = s.gpr := by unfold writeEntry; split <;> rfl
@[simp] theorem writeEntry_hi (i : Nat) : (writeEntry i s).hi = s.hi := by unfold writeEntry; split <;> rfl
@[simp] theorem writeEntry_lo (i : Nat) : (writeEntry i s).lo = s.lo := by unfold writeEntry; split <;> rfl
@[simp] theorem writeEntry_branchState (i : Nat) :
    (writeEntry i s).branchState = s.branchState := by unfold writeEntry; split <;> rfl
@[simp] theorem writeEntry_branchTarget (i : Nat) :
    (writeEntry i s).branchTarget = s.branchTarget := by unfold writeEntry; split <;> rfl
@[simp] theorem writeEntry_cp0 (i : Nat) : (writeEntry i s).cp0 = s.cp0 := by unfold writeEntry; split <;> rfl
@[simp] theorem writeEntry_ccr0 (i : Nat) : (writeEntry i s).ccr0 = s.ccr0 := by unfold writeEntry; split <;> rfl
@[simp] theorem writeEntry_fpr (i : Nat) : (writeEntry i s).fpr = s.fpr := by unfold writeEntry; split <;> rfl
@[simp] theorem writeEntry_ccr1 (i : Nat) : (writeEntry i s).ccr1 = s.ccr1 := by unfold writeEntry; split <;> rfl
@[simp] theorem writeEntry_fcc (i : Nat) : (writeEntry i s).fcc = s.fcc := by unfold writeEntry; split <;> rfl
@[simp] theorem writeEntry_cc0 (i : Nat) : (writeEntry i s).cc0 = s.cc0 := by unfold writeEntry; split <;> rfl
@[simp] theorem writeEntry_llValue (i : Nat) :
    (writeEntry i s).llValue = s.llValue := by unfold writeEntry; split <;> rfl
@[simp] theorem writeEntry_lldValue (i : Nat) :
    (writeEntry i s).lldValue = s.lldValue := by unfold writeEntry; split <;> rfl
@[simp] theorem writeEntry_countZeroTime (i : Nat) :
    (writeEntry i s).countZeroTime = s.countZeroTime := by unfold writeEntry; split <;> rfl
@[simp] theorem writeEntry_compareArmed (i : Nat) :
    (writeEntry i s).compareArmed = s.compareArmed := by unfold writeEntry; split <;> rfl
@[simp] theorem writeEntry_timerDeadline (i : Nat) :
    (writeEntry i s).timerDeadline = s.timerDeadline := by unfold writeEntry; split <;> rfl
@[simp] theorem writeEntry_mem (i : Nat) : (writeEntry i s).mem = s.mem := by unfold writeEntry; split <;> rfl
@[simp] theorem writeEntry_cycles (i : Nat) :
    (writeEntry i s).cycles = s.cycles := by unfold writeEntry; split <;> rfl
@[simp] theorem writeEntry_steps (i : Nat) :
    (writeEntry i s).steps = s.steps := by unfold writeEntry; split <;> rfl
@[simp] theorem writeEntry_inputs (i : Nat) :
    (writeEntry i s).inputs = s.inputs := by unfold writeEntry; split <;> rfl
@[simp] theorem writeEntry_draws (i : Nat) : (writeEntry i s).draws = s.draws := by unfold writeEntry; split <;> rfl
@[simp] theorem writeEntry_cfg (i : Nat) : (writeEntry i s).cfg = s.cfg := by unfold writeEntry; split <;> rfl

/-! `readEntry` -/

@[simp] theorem readEntry_pc (i : Nat) : (readEntry i s).pc = s.pc := by unfold readEntry; split <;> rfl
@[simp] theorem readEntry_gpr (i : Nat) : (readEntry i s).gpr = s.gpr := by unfold readEntry; split <;> rfl
@[simp] theorem readEntry_hi (i : Nat) : (readEntry i s).hi = s.hi := by unfold readEntry; split <;> rfl
@[simp] theorem readEntry_lo (i : Nat) : (readEntry i s).lo = s.lo := by unfold readEntry; split <;> rfl
@[simp] theorem readEntry_branchState (i : Nat) :
    (readEntry i s).branchState = s.branchState := by unfold readEntry; split <;> rfl
@[simp] theorem readEntry_branchTarget (i : Nat) :
    (readEntry i s).branchTarget = s.branchTarget := by unfold readEntry; split <;> rfl
@[simp] theorem readEntry_ccr0 (i : Nat) : (readEntry i s).ccr0 = s.ccr0 := by unfold readEntry; split <;> rfl
@[simp] theorem readEntry_fpr (i : Nat) : (readEntry i s).fpr = s.fpr := by unfold readEntry; split <;> rfl
@[simp] theorem readEntry_ccr1 (i : Nat) : (readEntry i s).ccr1 = s.ccr1 := by unfold readEntry; split <;> rfl
@[simp] theorem readEntry_fcc (i : Nat) : (readEntry i s).fcc = s.fcc := by unfold readEntry; split <;> rfl
@[simp] theorem readEntry_cc0 (i : Nat) : (readEntry i s).cc0 = s.cc0 := by unfold readEntry; split <;> rfl
@[simp] theorem readEntry_llValue (i : Nat) :
    (readEntry i s).llValue = s.llValue := by unfold readEntry; split <;> rfl
@[simp] theorem readEntry_lldValue (i : Nat) :
    (readEntry i s).lldValue = s.lldValue := by unfold readEntry; split <;> rfl
@[simp] theorem readEntry_countZeroTime (i : Nat) :
    (readEntry i s).countZeroTime = s.countZeroTime := by unfold readEntry; split <;> rfl
@[simp] theorem readEntry_compareArmed (i : Nat) :
    (readEntry i s).compareArmed = s.compareArmed := by unfold readEntry; split <;> rfl
@[simp] theorem readEntry_timerDeadline (i : Nat) :
    (readEntry i s).timerDeadline = s.timerDeadline := by unfold readEntry; split <;> rfl
@[simp] theorem readEntry_tlb (i : Nat) : (readEntry i s).tlb = s.tlb := by unfold readEntry; split <;> rfl
@[simp] theorem readEntry_mem (i : Nat) : (readEntry i s).mem = s.mem := by unfold readEntry; split <;> rfl
@[simp] theorem readEntry_cycles (i : Nat) : (readEntry i s).cycles = s.cycles := by unfold readEntry; split <;> rfl
@[simp] theorem readEntry_steps (i : Nat) : (readEntry i s).steps = s.steps := by unfold readEntry; split <;> rfl
@[simp] theorem readEntry_inputs (i : Nat) : (readEntry i s).inputs = s.inputs := by unfold readEntry; split <;> rfl
@[simp] theorem readEntry_draws (i : Nat) : (readEntry i s).draws = s.draws := by unfold readEntry; split <;> rfl
@[simp] theorem readEntry_cfg (i : Nat) : (readEntry i s).cfg = s.cfg := by unfold readEntry; split <;> rfl

/-! `retire` -/

@[simp] theorem retire_hi : (retire s).hi = s.hi := by simp [retire]
@[simp] theorem retire_lo : (retire s).lo = s.lo := by simp [retire]
@[simp] theorem retire_branchTarget : (retire s).branchTarget = s.branchTarget := by simp [retire]
@[simp] theorem retire_cp0 : (retire s).cp0 = s.cp0 := by simp [retire]
@[simp] theorem retire_ccr0 : (retire s).ccr0 = s.ccr0 := by simp [retire]
@[simp] theorem retire_fpr : (retire s).fpr = s.fpr := by simp [retire]
@[simp] theorem retire_ccr1 : (retire s).ccr1 = s.ccr1 := by simp [retire]
@[simp] theorem retire_fcc : (retire s).fcc = s.fcc := by simp [retire]
@[simp] theorem retire_cc0 : (retire s).cc0 = s.cc0 := by simp [retire]
@[simp] theorem retire_llValue : (retire s).llValue = s.llValue := by simp [retire]
@[simp] theorem retire_lldValue : (retire s).lldValue = s.lldValue := by simp [retire]
@[simp] theorem retire_countZeroTime : (retire s).countZeroTime = s.countZeroTime := by simp [retire]
@[simp] theorem retire_compareArmed : (retire s).compareArmed = s.compareArmed := by simp [retire]
@[simp] theorem retire_timerDeadline : (retire s).timerDeadline = s.timerDeadline := by simp [retire]
@[simp] theorem retire_tlb : (retire s).tlb = s.tlb := by simp [retire]
@[simp] theorem retire_mem : (retire s).mem = s.mem := by simp [retire]
@[simp] theorem retire_inputs : (retire s).inputs = s.inputs := by simp [retire]
@[simp] theorem retire_draws : (retire s).draws = s.draws := by simp [retire]
@[simp] theorem retire_cfg : (retire s).cfg = s.cfg := by simp [retire]

/-! `storeWord` -/

@[simp] theorem storeWord_pc (a : Nat) (w : Word32) : (storeWord a w s).pc = s.pc := rfl
@[simp] theorem storeWord_gpr (a : Nat) (w : Word32) : (storeWord a w s).gpr = s.gpr := rfl
@[simp] theorem storeWord_hi (a : Nat) (w : Word32) : (storeWord a w s).hi = s.hi := rfl
@[simp] theorem storeWord_lo (a : Nat) (w : Word32) : (storeWord a w s).lo = s.lo := rfl
@[simp] theorem storeWord_branchState (a : Nat) (w : Word32) : (storeWord a w s).branchState = s.branchState := rfl
@[simp] theorem storeWord_branchTarget (a : Nat) (w : Word32) : (storeWord a w s).branchTarget = s.branchTarget := rfl
@[simp] theorem storeWord_cp0 (a : Nat) (w : Word32) : (storeWord a w s).cp0 = s.cp0 := rfl
@[simp] theorem storeWord_ccr0 (a : Nat) (w : Word32) : (storeWord a w s).ccr0 = s.ccr0 := rfl
@[simp] theorem storeWord_fpr (a : Nat) (w : Word32) : (storeWord a w s).fpr = s.fpr := rfl
@[simp] theorem storeWord_ccr1 (a : Nat) (w : Word32) : (storeWord a w s).ccr1 = s.ccr1 := rfl
@[simp] theorem storeWord_fcc (a : Nat) (w : Word32) : (storeWord a w s).fcc = s.fcc := rfl
@[simp] theorem storeWord_cc0 (a : Nat) (w : Word32) : (storeWord a w s).cc0 = s.cc0 := rfl
@[simp] theorem storeWord_llValue (a : Nat) (w : Word32) : (storeWord a w s).llValue = s.llValue := rfl
@[simp] theorem storeWord_lldValue (a : Nat) (w : Word32) : (storeWord a w s).lldValue = s.lldValue := rfl
@[simp] theorem storeWord_countZeroTime (a : Nat) (w : Word32) : (storeWord a w s).countZeroTime = s.countZeroTime :=
  rfl
@[simp] theorem storeWord_compareArmed (a : Nat) (w : Word32) : (storeWord a w s).compareArmed = s.compareArmed := rfl
@[simp] theorem storeWord_timerDeadline (a : Nat) (w : Word32) : (storeWord a w s).timerDeadline = s.timerDeadline :=
  rfl
@[simp] theorem storeWord_tlb (a : Nat) (w : Word32) : (storeWord a w s).tlb = s.tlb := rfl
@[simp] theorem storeWord_cycles (a : Nat) (w : Word32) : (storeWord a w s).cycles = s.cycles := rfl
@[simp] theorem storeWord_steps (a : Nat) (w : Word32) : (storeWord a w s).steps = s.steps := rfl
@[simp] theorem storeWord_inputs (a : Nat) (w : Word32) : (storeWord a w s).inputs = s.inputs := rfl
@[simp] theorem storeWord_draws (a : Nat) (w : Word32) : (storeWord a w s).draws = s.draws := rfl
@[simp] theorem storeWord_cfg (a : Nat) (w : Word32) : (storeWord a w s).cfg = s.cfg := rfl

/-! `drawRandom` -/

@[simp] theorem drawRandom_pc : (drawRandom s).2.pc = s.pc := rfl
@[simp] theorem drawRandom_gpr : (drawRandom s).2.gpr = s.gpr := rfl
@[simp] theorem drawRandom_hi : (drawRandom s).2.hi = s.hi := rfl
@[simp] theorem drawRandom_lo : (drawRandom s).2.lo = s.lo := rfl
@[simp] theorem drawRandom_branchState : (drawRandom s).2.branchState = s.branchState := rfl
@[simp] theorem drawRandom_branchTarget : (drawRandom s).2.branchTarget = s.branchTarget := rfl
@[simp] theorem drawRandom_cp0 : (drawRandom s).2.cp0 = s.cp0 := rfl
@[simp] theorem drawRandom_ccr0 : (drawRandom s).2.ccr0 = s.ccr0 := rfl
@[simp] theorem drawRandom_fpr : (drawRandom s).2.fpr = s.fpr := rfl
@[simp] theorem drawRandom_ccr1 : (drawRandom s).2.ccr1 = s.ccr1 := rfl
@[simp] theorem drawRandom_fcc : (drawRandom s).2.fcc = s.fcc := rfl
@[simp] theorem drawRandom_cc0 : (drawRandom s).2.cc0 = s.cc0 := rfl
@[simp] theorem drawRandom_llValue : (drawRandom s).2.llValue = s.llValue := rfl
@[simp] theorem drawRandom_lldValue : (drawRandom s).2.lldValue = s.lldValue := rfl
@[simp] theorem drawRandom_countZeroTime : (drawRandom s).2.countZeroTime = s.countZeroTime := rfl
@[simp] theorem drawRandom_compareArmed : (drawRandom s).2.compareArmed = s.compareArmed := rfl
@[simp] theorem drawRandom_timerDeadline : (drawRandom s).2.timerDeadline = s.timerDeadline := rfl
@[simp] theorem drawRandom_tlb : (drawRandom s).2.tlb = s.tlb := rfl
@[simp] theorem drawRandom_mem : (drawRandom s).2.mem = s.mem := rfl
@[simp] theorem drawRandom_cycles : (drawRandom s).2.cycles = s.cycles := rfl
@[simp] theorem drawRandom_steps : (drawRandom s).2.steps = s.steps := rfl
@[simp] theorem drawRandom_inputs : (drawRandom s).2.inputs = s.inputs := rfl
@[simp] theorem drawRandom_cfg : (drawRandom s).2.cfg = s.cfg := rfl

/-! What the plainest updates write -/

@[simp] theorem takeBranch_branchState (t : Word) : (takeBranch t s).branchState = .branch := rfl
@[simp] theorem takeBranch_branchTarget (t : Word) : (takeBranch t s).branchTarget = t := rfl
@[simp] theorem nullifySlot_branchState : (nullifySlot s).branchState = .nullify := rfl
@[simp] theorem raise_branchState (e : Exc) : (raise e s).branchState = .exception := rfl
@[simp] theorem writeHiLo_hi (h l : Word) : (writeHiLo h l s).hi = h := rfl
@[simp] theorem writeHiLo_lo (h l : Word) : (writeHiLo h l s).lo = l := rfl
@[simp] theorem rearm_compareArmed : (rearm s).compareArmed = true := rfl
@[simp] theorem writeCompare_compareArmed (v : Word32) : (writeCompare v s).compareArmed = true := rfl
@[simp] theorem writeCount_compareArmed (v : Word32) : (writeCount v s).compareArmed = true := rfl
@[simp] theorem fcsrWrite_ccr1 (v : Word32) : (fcsrWrite v s).ccr1 = s.ccr1.set 31 v := rfl

end Sys2Proof.Machine
end

