-- ==== Sys2Proof/Laws/Ops.lean ====
section
/-! SUPPORT. For each shared operation, once, what it can do: the lemmas that proofs about instructions cite instead
of unfolding the operation. -/

namespace Sys2Proof.Machine

variable {s t : State}

/-! ### General registers -/

@[simp] theorem readGpr_zero (s : State) : readGpr 0 s = 0 := rfl

theorem readGpr_of_gpr (r : Reg) (h : t.gpr = s.gpr) : readGpr r t = readGpr r s := by simp [readGpr, h]

/-- A written register reads back, unless it is register 0. -/
theorem readGpr_writeGpr_same (r : Reg) (v : Word) (h : r ≠ 0) : readGpr r (writeGpr r v s) = v := by
  unfold readGpr writeGpr
  rw [if_neg h, if_neg h]
  simp

/-- Every other register reads as before. -/
theorem readGpr_writeGpr_other (r q : Reg) (v : Word) (h : q ≠ r) :
    readGpr q (writeGpr r v s) = readGpr q s := by
  unfold writeGpr
  split
  · rfl
  · have : r.toNat ≠ q.toNat := fun e => h (BitVec.eq_of_toNat_eq e.symm)
    simp [readGpr, Vector.getElem_set_ne, this]

/-- The whole effect of a register write. -/
theorem onlyGprs_writeGpr (r : Reg) (v : Word) : OnlyGprs [r] s (writeGpr r v s) := by
  refine ⟨fun q hq => readGpr_writeGpr_other r q v (by simpa using hq), ?_⟩
  simp [FlowSame, HiLoSame, FprsSame, FpControlSame, Cp0Same, SystemRestSame, LatchesSame, MemorySame, OutsideSame]

/-- An instruction that only writes a general register. -/
theorem writesGpr_of_exec {i : Instr} {rd : Reg} {v : Word} (h : exec i s = .next (writeGpr rd v s)) :
    WritesGpr i s rd v :=
  ⟨_, h, fun hr => readGpr_writeGpr_same rd v hr, rfl, onlyGprs_writeGpr rd v⟩

/-- An instruction that only writes `hi` and `lo`. -/
theorem writesHiLo_of_exec {i : Instr} {h l : Word} (e : exec i s = .next (writeHiLo h l s)) :
    WritesHiLo i s h l :=
  ⟨_, e, rfl, rfl, fun r _ => readGpr_of_gpr r rfl, by
    simp [FlowSame, FprsSame, FpControlSame, Cp0Same, SystemRestSame, LatchesSame, MemorySame, OutsideSame]⟩

/-! ### Branches -/

/-- A taken branch without a link. -/
theorem branches_of_exec {i : Instr} {target : Word} (h : exec i s = .next (takeBranch target s)) :
    Branches i s target none :=
  ⟨_, h, rfl, rfl, fun p hp => by simp at hp, fun r _ => readGpr_of_gpr r rfl, by
    simp [HiLoSame, FprsSame, FpControlSame, Cp0Same, SystemRestSame, LatchesSame, MemorySame, OutsideSame]⟩

/-- A taken branch that also writes a link register. -/
theorem branches_link_of_exec {i : Instr} {target v : Word} {rd : Reg}
    (h : exec i s = .next (takeBranch target (writeGpr rd v s))) : Branches i s target (some (rd, v)) := by
  refine ⟨_, h, rfl, rfl, fun p hp hr => ?_, fun r hr => ?_, ?_⟩
  · cases hp
    exact (readGpr_of_gpr _ (takeBranch_gpr _ _)).trans (readGpr_writeGpr_same rd v hr)
  · exact (readGpr_of_gpr _ (takeBranch_gpr _ _)).trans (readGpr_writeGpr_other rd r v (by simpa using hr))
  · simp [HiLoSame, FprsSame, FpControlSame, Cp0Same, SystemRestSame, LatchesSame, MemorySame, OutsideSame]

/-- A branch not taken, without a link. -/
theorem fallsThrough_of_exec {i : Instr} (h : exec i s = .next s) : FallsThrough i s false none :=
  ⟨_, h, rfl, rfl, fun p hp => by simp at hp, fun _ _ => rfl, by
    simp [HiLoSame, FprsSame, FpControlSame, Cp0Same, SystemRestSame, LatchesSame, MemorySame, OutsideSame]⟩

/-- A likely branch not taken, without a link. -/
theorem fallsThrough_nullify_of_exec {i : Instr} (h : exec i s = .next (nullifySlot s)) :
    FallsThrough i s true none :=
  ⟨_, h, rfl, rfl, fun p hp => by simp at hp, fun r _ => readGpr_of_gpr r rfl, by
    simp [HiLoSame, FprsSame, FpControlSame, Cp0Same, SystemRestSame, LatchesSame, MemorySame, OutsideSame]⟩

/-! ### Data accesses -/

/-- What an access that completes went through. -/
theorem Access.bind_ok {α β : Type} {a : Access α} {k : α → Access β} {b : β} :
    a.bind k = .ok b ↔ ∃ v, a = .ok v ∧ k v = .ok b := by
  cases a <;> simp [Access.bind]

/-- An instruction whose access completes goes on with it. -/
theorem withAccess_ok {α : Type} {a : Access α} {v : α} {k : α → Result} (h : a = .ok v) :
    withAccess a s k = k v := by simp [withAccess, h]

/-- All that an instruction with an access can do: go on, take the exception, or stop as the access does. -/
theorem withAccess_next {α : Type} {a : Access α} {k : α → Result} (h : withAccess a s k = .next t) :
    (∃ v, a = .ok v ∧ k v = .next t) ∨ ∃ e, a = .raised e ∧ t = raise e s := by
  cases a <;> simp_all [withAccess]

/-- The lowest `k` lanes of a read spell the number that the bytes spell. -/
theorem toNat_readLanes (be : Bool) (m : Memory) (pa n k : Nat) (hk : k ≤ 8) :
    (readLanes be m pa n k).toNat = lanesValue be m pa n k ∧ lanesValue be m pa n k < 256 ^ k := by
  induction k with
  | zero => simp [readLanes, lanesValue]
  | succ k ih =>
    obtain ⟨ih, hlt⟩ := ih (by omega)
    have hb := (m.readByte (laneAddr be pa n k)).isLt
    set b := m.readByte (laneAddr be pa n k)
    have hpow : (256 : Nat) ^ k = 2 ^ (8 * k) := by rw [Nat.pow_mul]
    have hle : (256 : Nat) ^ k ≤ 256 ^ 7 := Nat.pow_le_pow_right (by omega) (by omega)
    have hv : lanesValue be m pa n (k + 1) = lanesValue be m pa n k + b.toNat * 256 ^ k := rfl
    have hsucc : (256 : Nat) ^ (k + 1) = 256 * 256 ^ k := by ring
    have hbound : lanesValue be m pa n k + b.toNat * 256 ^ k < 256 ^ (k + 1) := by
      rw [hsucc]; nlinarith [Nat.succ_le_of_lt hb]
    refine ⟨?_, by rw [hv]; exact hbound⟩
    rw [hv]
    simp only [readLanes]
    have hsh : (b.setWidth 64 <<< (8 * k)).toNat = b.toNat * 256 ^ k := by
      rw [BitVec.toNat_shiftLeft, BitVec.toNat_setWidth, Nat.shiftLeft_eq, hpow]
      have h1 : b.toNat % 2 ^ 64 = b.toNat := Nat.mod_eq_of_lt (by omega)
      rw [h1, Nat.mod_eq_of_lt]
      have : b.toNat * 256 ^ k < 2 ^ 8 * 256 ^ 7 := by nlinarith
      calc b.toNat * 2 ^ (8 * k) = b.toNat * 256 ^ k := by rw [hpow]
        _ < 2 ^ 8 * 256 ^ 7 := this
        _ = 2 ^ 64 := by norm_num
    have hor : (readLanes be m pa n k ||| b.setWidth 64 <<< (8 * k)).toNat
        = (readLanes be m pa n k).toNat + (b.setWidth 64 <<< (8 * k)).toNat := by
      rw [BitVec.toNat_or, hsh, ih, hpow, Nat.lor_comm, Nat.mul_comm, ← Nat.two_pow_add_eq_or_of_lt (by omega)]
      ring
    rw [hor, ih, hsh]

/-- All that a load can do when it completes (R90). -/
theorem memRead_ok {va : Word} {n : Nat} {w : Word} :
    memRead s va n = .ok w ↔ misaligned va n = false ∧
      ∃ pa a, translate s va .read = .ok (pa, a) ∧ busFails s.cfg false pa n = false ∧
        w = readLanes s.cfg.bigEndian s.mem pa n n := by
  unfold memRead
  cases hm : misaligned va n <;> simp only [Bool.false_eq_true, if_false, if_true, Access.bind_ok, true_and]
  · constructor
    · rintro ⟨⟨pa, a⟩, ht, h⟩
      refine ⟨pa, a, ht, ?_⟩
      unfold busRead at h
      cases hb : busFails s.cfg false pa n <;> simp_all
    · rintro ⟨pa, a, ht, hb, rfl⟩
      exact ⟨(pa, a), ht, by simp [busRead, hb]⟩
  · simp

/-- All that a store can do when it completes (R91, R92). -/
theorem memWriteMasked_ok {va : Word} {n : Nat} {v mask : Word} {m : Memory} :
    memWriteMasked s va n v mask = .ok m ↔ misaligned va n = false ∧
      ∃ pa a, translate s va .write = .ok (pa, a) ∧ busFails s.cfg true pa n = false ∧
        m = writeLanes s.cfg.bigEndian s.mem pa n v mask n := by
  unfold memWriteMasked
  cases hm : misaligned va n <;> simp only [Bool.false_eq_true, if_false, if_true, Access.bind_ok, true_and]
  · constructor
    · rintro ⟨⟨pa, a⟩, ht, h⟩
      refine ⟨pa, a, ht, ?_⟩
      unfold busWrite at h
      cases hb : busFails s.cfg true pa n <;> simp_all
    · rintro ⟨pa, a, ht, hb, rfl⟩
      exact ⟨(pa, a), ht, by simp [busWrite, hb]⟩
  · simp

/-- A ready load completes with the number that its bytes spell. -/
theorem memRead_of_ready {va : Word} {n pa : Nat} (hn : n ≤ 8) (h : LoadReady s va n pa) :
    ∃ w : Word, memRead s va n = .ok w ∧ w.toNat = memoryValue s pa n ∧ memoryValue s pa n < 256 ^ n := by
  obtain ⟨ha, ⟨a, ht⟩, hb⟩ := h
  have hl := toNat_readLanes s.cfg.bigEndian s.mem pa n n hn
  exact ⟨_, memRead_ok.mpr ⟨by simp [misaligned, ha], pa, a, ht, hb, rfl⟩, hl.1, hl.2⟩

/-- A ready store completes; its lanes are written and no other byte. -/
theorem memWriteMasked_of_ready {va : Word} {n pa : Nat} {v mask : Word} (h : StoreReady s va n pa) :
    ∃ m, memWriteMasked s va n v mask = .ok m ∧ m.wf = true ∧
      (∀ k, k < n → laneByte mask k = 0xFF#8 →
        m.readByte (laneAddr s.cfg.bigEndian pa n k) = laneByte v k) ∧
      (∀ a, (∀ k, k < n → laneByte mask k = 0xFF#8 → a ≠ laneAddr s.cfg.bigEndian pa n k) →
        m.readByte a = s.mem.readByte a) := by
  obtain ⟨ha, ⟨a, ht⟩, hb, hwf⟩ := h
  have hl := readByte_writeLanes s.cfg.bigEndian s.mem pa n v mask n (Nat.le_refl n) hwf
  exact ⟨_, memWriteMasked_ok.mpr ⟨by simp [misaligned, ha], pa, a, ht, hb, rfl⟩, wf_writeLanes _ _ _ _ _ _ _ hwf,
    hl.1, hl.2⟩

/-! ### Floating-point registers -/

theorem fprCell_congr (n : Reg) (h : t.cp0.status = s.cp0.status) : fprCell n t = fprCell n s := by
  simp [fprCell, statusFr, statusBit, h]

theorem usesHighHalf_congr (n : Reg) (h : t.cp0.status = s.cp0.status) : usesHighHalf n t = usesHighHalf n s := by
  simp [usesHighHalf, statusFr, statusBit, h]

theorem readFpr64_writeFpr64 (n : Reg) (v : Word) : readFpr64 n (writeFpr64 n v s) = v := by
  have h : fprCell n (writeFpr64 n v s) = fprCell n s := fprCell_congr n rfl
  simp only [readFpr64, h]
  simp [writeFpr64]

theorem otherFprCellsSame_writeFpr64 (n : Reg) (v : Word) : OtherFprCellsSame n s (writeFpr64 n v s) := by
  intro k h hk
  simp [writeFpr64, Vector.getElem_set_ne, hk.symm]

theorem getLsbD_join32 (a b : Word32) (i : Nat) :
    (join32 a b).getLsbD i = if i < 32 then b.getLsbD i else a.getLsbD (i - 32) := by
  unfold join32; rw [← BitVec.getLsbD_append]

theorem lo32_join32 (a b : Word32) : lo32 (join32 a b) = b := by
  ext i hi
  simp [lo32, getLsbD_join32, hi]

theorem hi32_join32 (a b : Word32) : hi32 (join32 a b) = a := by
  ext i hi
  simp [hi32, getLsbD_join32, BitVec.getLsbD_eq_getElem hi]

theorem readFpr32_writeFpr32 (n : Reg) (v : Word32) : readFpr32 n (writeFpr32 n v s) = v := by
  unfold readFpr32 writeFpr32
  rw [usesHighHalf_congr (s := s) n (by simp), readFpr64_writeFpr64]
  split <;> simp [lo32_join32, hi32_join32]

theorem otherHalfSame_writeFpr32 (n : Reg) (v : Word32) : OtherHalfSame n s (writeFpr32 n v s) := by
  simp only [OtherHalfSame, writeFpr32, readFpr64_writeFpr64]
  split <;> simp [lo32_join32, hi32_join32]

/-- An instruction that only writes a 64-bit floating register. -/
theorem writesFpr64_of_exec {i : Instr} {fd : Reg} {v : Word} {P : Word → Prop}
    (h : exec i s = .next (writeFpr64 fd v s)) (hv : P v) : WritesFpr64 i s fd P :=
  ⟨_, h, by rwa [readFpr64_writeFpr64], otherFprCellsSame_writeFpr64 fd v, fun r _ => readGpr_of_gpr r rfl, by
    simp [FlowSame, HiLoSame, FpControlSame, Cp0Same, SystemRestSame, LatchesSame, MemorySame, OutsideSame]⟩

/-- An instruction that only writes a 32-bit floating register. -/
theorem writesFpr32_of_exec {i : Instr} {fd : Reg} {v : Word32} {P : Word32 → Prop}
    (h : exec i s = .next (writeFpr32 fd v s)) (hv : P v) : WritesFpr32 i s fd P :=
  ⟨_, h, by rwa [readFpr32_writeFpr32], otherHalfSame_writeFpr32 fd v, otherFprCellsSame_writeFpr64 fd _,
    fun r _ => readGpr_of_gpr r rfl, by
    simp [FlowSame, HiLoSame, FpControlSame, Cp0Same, SystemRestSame, LatchesSame, MemorySame, OutsideSame]⟩

/-! ### Usability -/

theorem requireCp0_of_usable {k : Result} (h : cp0Usable s = true) : requireCp0 s k = k := by simp [requireCp0, h]

theorem requireCp1_of_enabled {k : Result} (h : s.cp0.status.getLsbD 29 = true) : requireCp1 s k = k := by
  simp [requireCp1, coprocessorEnabled, statusBit, h]

end Sys2Proof.Machine
end

