-- ==== Sys2Proof/Laws/PerInstr.lean ====
section
/-! SUPPORT. For every instruction: its encoding has each fixed field of its row of the opcode table, and each operand
field of the row holds that operand (spec/30_encoding.md R141 to R148). The rows here are those of
spec/opcode_table.json; a fixed field that spans several named ones is given in parts. -/

namespace Sys2Proof.Laws.TableFields

set_option Elab.async false

/-- The encoding of an instruction agrees with its row of the opcode table. -/
def Statement (i : Instr) : Prop :=
  let w := encode i
  match i with
  | .sll rd rt sa =>
    field w 26 6 = 0x00#6 ∧ field w 0 6 = 0x00#6 ∧ field w 11 5 = rd ∧ field w 16 5 = rt ∧
    field w 6 5 = BitVec.ofNat 5 sa
  | .srl rd rt sa =>
    field w 26 6 = 0x00#6 ∧ field w 0 6 = 0x02#6 ∧ field w 11 5 = rd ∧ field w 16 5 = rt ∧
    field w 6 5 = BitVec.ofNat 5 sa
  | .sra rd rt sa =>
    field w 26 6 = 0x00#6 ∧ field w 0 6 = 0x03#6 ∧ field w 11 5 = rd ∧ field w 16 5 = rt ∧
    field w 6 5 = BitVec.ofNat 5 sa
  | .sllv rd rt rs =>
    field w 26 6 = 0x00#6 ∧ field w 0 6 = 0x04#6 ∧ field w 11 5 = rd ∧ field w 16 5 = rt ∧ field w 21 5 = rs
  | .srlv rd rt rs =>
    field w 26 6 = 0x00#6 ∧ field w 0 6 = 0x06#6 ∧ field w 11 5 = rd ∧ field w 16 5 = rt ∧ field w 21 5 = rs
  | .srav rd rt rs =>
    field w 26 6 = 0x00#6 ∧ field w 0 6 = 0x07#6 ∧ field w 11 5 = rd ∧ field w 16 5 = rt ∧ field w 21 5 = rs
  | .jr rs => field w 26 6 = 0x00#6 ∧ field w 0 6 = 0x08#6 ∧ field w 21 5 = rs
  | .jalr rd rs => field w 26 6 = 0x00#6 ∧ field w 0 6 = 0x09#6 ∧ field w 11 5 = rd ∧ field w 21 5 = rs
  | .syscall code => field w 26 6 = 0x00#6 ∧ field w 0 6 = 0x0C#6 ∧ field w 6 20 = code
  | .brk code => field w 26 6 = 0x00#6 ∧ field w 0 6 = 0x0D#6 ∧ field w 6 20 = code
  | .sync stype => field w 26 6 = 0x00#6 ∧ field w 0 6 = 0x0F#6 ∧ field w 6 5 = stype
  | .mfhi rd => field w 26 6 = 0x00#6 ∧ field w 0 6 = 0x10#6 ∧ field w 11 5 = rd
  | .mthi rs => field w 26 6 = 0x00#6 ∧ field w 0 6 = 0x11#6 ∧ field w 21 5 = rs
  | .mflo rd => field w 26 6 = 0x00#6 ∧ field w 0 6 = 0x12#6 ∧ field w 11 5 = rd
  | .mtlo rs => field w 26 6 = 0x00#6 ∧ field w 0 6 = 0x13#6 ∧ field w 21 5 = rs
  | .dsllv rd rt rs =>
    field w 26 6 = 0x00#6 ∧ field w 0 6 = 0x14#6 ∧ field w 11 5 = rd ∧ field w 16 5 = rt ∧ field w 21 5 = rs
  | .dsrlv rd rt rs =>
    field w 26 6 = 0x00#6 ∧ field w 0 6 = 0x16#6 ∧ field w 11 5 = rd ∧ field w 16 5 = rt ∧ field w 21 5 = rs
  | .dsrav rd rt rs =>
    field w 26 6 = 0x00#6 ∧ field w 0 6 = 0x17#6 ∧ field w 11 5 = rd ∧ field w 16 5 = rt ∧ field w 21 5 = rs
  | .mult rs rt => field w 26 6 = 0x00#6 ∧ field w 0 6 = 0x18#6 ∧ field w 21 5 = rs ∧ field w 16 5 = rt
  | .multu rs rt => field w 26 6 = 0x00#6 ∧ field w 0 6 = 0x19#6 ∧ field w 21 5 = rs ∧ field w 16 5 = rt
  | .div rs rt => field w 26 6 = 0x00#6 ∧ field w 0 6 = 0x1A#6 ∧ field w 21 5 = rs ∧ field w 16 5 = rt
  | .divu rs rt => field w 26 6 = 0x00#6 ∧ field w 0 6 = 0x1B#6 ∧ field w 21 5 = rs ∧ field w 16 5 = rt
  | .dmult rs rt => field w 26 6 = 0x00#6 ∧ field w 0 6 = 0x1C#6 ∧ field w 21 5 = rs ∧ field w 16 5 = rt
  | .dmultu rs rt => field w 26 6 = 0x00#6 ∧ field w 0 6 = 0x1D#6 ∧ field w 21 5 = rs ∧ field w 16 5 = rt
  | .ddiv rs rt => field w 26 6 = 0x00#6 ∧ field w 0 6 = 0x1E#6 ∧ field w 21 5 = rs ∧ field w 16 5 = rt
  | .ddivu rs rt => field w 26 6 = 0x00#6 ∧ field w 0 6 = 0x1F#6 ∧ field w 21 5 = rs ∧ field w 16 5 = rt
  | .add rd rs rt =>
    field w 26 6 = 0x00#6 ∧ field w 0 6 = 0x20#6 ∧ field w 11 5 = rd ∧ field w 21 5 = rs ∧ field w 16 5 = rt
  | .addu rd rs rt =>
    field w 26 6 = 0x00#6 ∧ field w 0 6 = 0x21#6 ∧ field w 11 5 = rd ∧ field w 21 5 = rs ∧ field w 16 5 = rt
  | .sub rd rs rt =>
    field w 26 6 = 0x00#6 ∧ field w 0 6 = 0x22#6 ∧ field w 11 5 = rd ∧ field w 21 5 = rs ∧ field w 16 5 = rt
  | .subu rd rs rt =>
    field w 26 6 = 0x00#6 ∧ field w 0 6 = 0x23#6 ∧ field w 11 5 = rd ∧ field w 21 5 = rs ∧ field w 16 5 = rt
  | .and rd rs rt =>
    field w 26 6 = 0x00#6 ∧ field w 0 6 = 0x24#6 ∧ field w 11 5 = rd ∧ field w 21 5 = rs ∧ field w 16 5 = rt
  | .or rd rs rt =>
    field w 26 6 = 0x00#6 ∧ field w 0 6 = 0x25#6 ∧ field w 11 5 = rd ∧ field w 21 5 = rs ∧ field w 16 5 = rt
  | .xor rd rs rt =>
    field w 26 6 = 0x00#6 ∧ field w 0 6 = 0x26#6 ∧ field w 11 5 = rd ∧ field w 21 5 = rs ∧ field w 16 5 = rt
  | .nor rd rs rt =>
    field w 26 6 = 0x00#6 ∧ field w 0 6 = 0x27#6 ∧ field w 11 5 = rd ∧ field w 21 5 = rs ∧ field w 16 5 = rt
  | .slt rd rs rt =>
    field w 26 6 = 0x00#6 ∧ field w 0 6 = 0x2A#6 ∧ field w 11 5 = rd ∧ field w 21 5 = rs ∧ field w 16 5 = rt
  | .sltu rd rs rt =>
    field w 26 6 = 0x00#6 ∧ field w 0 6 = 0x2B#6 ∧ field w 11 5 = rd ∧ field w 21 5 = rs ∧ field w 16 5 = rt
  | .dadd rd rs rt =>
    field w 26 6 = 0x00#6 ∧ field w 0 6 = 0x2C#6 ∧ field w 11 5 = rd ∧ field w 21 5 = rs ∧ field w 16 5 = rt
  | .daddu rd rs rt =>
    field w 26 6 = 0x00#6 ∧ field w 0 6 = 0x2D#6 ∧ field w 11 5 = rd ∧ field w 21 5 = rs ∧ field w 16 5 = rt
  | .dsub rd rs rt =>
    field w 26 6 = 0x00#6 ∧ field w 0 6 = 0x2E#6 ∧ field w 11 5 = rd ∧ field w 21 5 = rs ∧ field w 16 5 = rt
  | .dsubu rd rs rt =>
    field w 26 6 = 0x00#6 ∧ field w 0 6 = 0x2F#6 ∧ field w 11 5 = rd ∧ field w 21 5 = rs ∧ field w 16 5 = rt
  | .tge rs rt code =>
    field w 26 6 = 0x00#6 ∧ field w 0 6 = 0x30#6 ∧ field w 21 5 = rs ∧ field w 16 5 = rt ∧ field w 6 10 = code
  | .tgeu rs rt code =>
    field w 26 6 = 0x00#6 ∧ field w 0 6 = 0x31#6 ∧ field w 21 5 = rs ∧ field w 16 5 = rt ∧ field w 6 10 = code
  | .tlt rs rt code =>
    field w 26 6 = 0x00#6 ∧ field w 0 6 = 0x32#6 ∧ field w 21 5 = rs ∧ field w 16 5 = rt ∧ field w 6 10 = code
  | .tltu rs rt code =>
    field w 26 6 = 0x00#6 ∧ field w 0 6 = 0x33#6 ∧ field w 21 5 = rs ∧ field w 16 5 = rt ∧ field w 6 10 = code
  | .teq rs rt code =>
    field w 26 6 = 0x00#6 ∧ field w 0 6 = 0x34#6 ∧ field w 21 5 = rs ∧ field w 16 5 = rt ∧ field w 6 10 = code
  | .tne rs rt code =>
    field w 26 6 = 0x00#6 ∧ field w 0 6 = 0x36#6 ∧ field w 21 5 = rs ∧ field w 16 5 = rt ∧ field w 6 10 = code
  | .dsll rd rt sa =>
    field w 26 6 = 0x00#6 ∧ field w 0 6 = 0x38#6 ∧ field w 11 5 = rd ∧ field w 16 5 = rt ∧
    field w 6 5 = BitVec.ofNat 5 sa
  | .dsrl rd rt sa =>
    field w 26 6 = 0x00#6 ∧ field w 0 6 = 0x3A#6 ∧ field w 11 5 = rd ∧ field w 16 5 = rt ∧
    field w 6 5 = BitVec.ofNat 5 sa
  | .dsra rd rt sa =>
    field w 26 6 = 0x00#6 ∧ field w 0 6 = 0x3B#6 ∧ field w 11 5 = rd ∧ field w 16 5 = rt ∧
    field w 6 5 = BitVec.ofNat 5 sa
  | .dsll32 rd rt sa =>
    field w 26 6 = 0x00#6 ∧ field w 0 6 = 0x3C#6 ∧ field w 11 5 = rd ∧ field w 16 5 = rt ∧
    field w 6 5 = BitVec.ofNat 5 sa
  | .dsrl32 rd rt sa =>
    field w 26 6 = 0x00#6 ∧ field w 0 6 = 0x3E#6 ∧ field w 11 5 = rd ∧ field w 16 5 = rt ∧
    field w 6 5 = BitVec.ofNat 5 sa
  | .dsra32 rd rt sa =>
    field w 26 6 = 0x00#6 ∧ field w 0 6 = 0x3F#6 ∧ field w 11 5 = rd ∧ field w 16 5 = rt ∧
    field w 6 5 = BitVec.ofNat 5 sa
  | .bltz rs offset => field w 26 6 = 0x01#6 ∧ field w 16 5 = 0x00#5 ∧ field w 21 5 = rs ∧ field w 0 16 = offset
  | .bgez rs offset => field w 26 6 = 0x01#6 ∧ field w 16 5 = 0x01#5 ∧ field w 21 5 = rs ∧ field w 0 16 = offset
  | .bltzl rs offset => field w 26 6 = 0x01#6 ∧ field w 16 5 = 0x02#5 ∧ field w 21 5 = rs ∧ field w 0 16 = offset
  | .bgezl rs offset => field w 26 6 = 0x01#6 ∧ field w 16 5 = 0x03#5 ∧ field w 21 5 = rs ∧ field w 0 16 = offset
  | .tgei rs imm => field w 26 6 = 0x01#6 ∧ field w 16 5 = 0x08#5 ∧ field w 21 5 = rs ∧ field w 0 16 = imm
  | .tgeiu rs imm => field w 26 6 = 0x01#6 ∧ field w 16 5 = 0x09#5 ∧ field w 21 5 = rs ∧ field w 0 16 = imm
  | .tlti rs imm => field w 26 6 = 0x01#6 ∧ field w 16 5 = 0x0A#5 ∧ field w 21 5 = rs ∧ field w 0 16 = imm
  | .tltiu rs imm => field w 26 6 = 0x01#6 ∧ field w 16 5 = 0x0B#5 ∧ field w 21 5 = rs ∧ field w 0 16 = imm
  | .teqi rs imm => field w 26 6 = 0x01#6 ∧ field w 16 5 = 0x0C#5 ∧ field w 21 5 = rs ∧ field w 0 16 = imm
  | .tnei rs imm => field w 26 6 = 0x01#6 ∧ field w 16 5 = 0x0E#5 ∧ field w 21 5 = rs ∧ field w 0 16 = imm
  | .bltzal rs offset => field w 26 6 = 0x01#6 ∧ field w 16 5 = 0x10#5 ∧ field w 21 5 = rs ∧ field w 0 16 = offset
  | .bgezal rs offset => field w 26 6 = 0x01#6 ∧ field w 16 5 = 0x11#5 ∧ field w 21 5 = rs ∧ field w 0 16 = offset
  | .bltzall rs offset => field w 26 6 = 0x01#6 ∧ field w 16 5 = 0x12#5 ∧ field w 21 5 = rs ∧ field w 0 16 = offset
  | .bgezall rs offset => field w 26 6 = 0x01#6 ∧ field w 16 5 = 0x13#5 ∧ field w 21 5 = rs ∧ field w 0 16 = offset
  | .j target => field w 26 6 = 0x02#6 ∧ field w 0 26 = target
  | .jal target => field w 26 6 = 0x03#6 ∧ field w 0 26 = target
  | .beq rs rt offset => field w 26 6 = 0x04#6 ∧ field w 21 5 = rs ∧ field w 16 5 = rt ∧ field w 0 16 = offset
  | .bne rs rt offset => field w 26 6 = 0x05#6 ∧ field w 21 5 = rs ∧ field w 16 5 = rt ∧ field w 0 16 = offset
  | .blez rs offset => field w 26 6 = 0x06#6 ∧ field w 21 5 = rs ∧ field w 0 16 = offset
  | .bgtz rs offset => field w 26 6 = 0x07#6 ∧ field w 21 5 = rs ∧ field w 0 16 = offset
  | .addi rt rs imm => field w 26 6 = 0x08#6 ∧ field w 16 5 = rt ∧ field w 21 5 = rs ∧ field w 0 16 = imm
  | .addiu rt rs imm => field w 26 6 = 0x09#6 ∧ field w 16 5 = rt ∧ field w 21 5 = rs ∧ field w 0 16 = imm
  | .slti rt rs imm => field w 26 6 = 0x0A#6 ∧ field w 16 5 = rt ∧ field w 21 5 = rs ∧ field w 0 16 = imm
  | .sltiu rt rs imm => field w 26 6 = 0x0B#6 ∧ field w 16 5 = rt ∧ field w 21 5 = rs ∧ field w 0 16 = imm
  | .andi rt rs imm => field w 26 6 = 0x0C#6 ∧ field w 16 5 = rt ∧ field w 21 5 = rs ∧ field w 0 16 = imm
  | .ori rt rs imm => field w 26 6 = 0x0D#6 ∧ field w 16 5 = rt ∧ field w 21 5 = rs ∧ field w 0 16 = imm
  | .xori rt rs imm => field w 26 6 = 0x0E#6 ∧ field w 16 5 = rt ∧ field w 21 5 = rs ∧ field w 0 16 = imm
  | .lui rt imm => field w 26 6 = 0x0F#6 ∧ field w 16 5 = rt ∧ field w 0 16 = imm
  | .cop2 cofun => field w 26 6 = 0x12#6 ∧ field w 0 26 = cofun
  | .beql rs rt offset => field w 26 6 = 0x14#6 ∧ field w 21 5 = rs ∧ field w 16 5 = rt ∧ field w 0 16 = offset
  | .bnel rs rt offset => field w 26 6 = 0x15#6 ∧ field w 21 5 = rs ∧ field w 16 5 = rt ∧ field w 0 16 = offset
  | .blezl rs offset => field w 26 6 = 0x16#6 ∧ field w 21 5 = rs ∧ field w 0 16 = offset
  | .bgtzl rs offset => field w 26 6 = 0x17#6 ∧ field w 21 5 = rs ∧ field w 0 16 = offset
  | .daddi rt rs imm => field w 26 6 = 0x18#6 ∧ field w 16 5 = rt ∧ field w 21 5 = rs ∧ field w 0 16 = imm
  | .daddiu rt rs imm => field w 26 6 = 0x19#6 ∧ field w 16 5 = rt ∧ field w 21 5 = rs ∧ field w 0 16 = imm
  | .ldl rt offset base => field w 26 6 = 0x1A#6 ∧ field w 16 5 = rt ∧ field w 0 16 = offset ∧ field w 21 5 = base
  | .ldr rt offset base => field w 26 6 = 0x1B#6 ∧ field w 16 5 = rt ∧ field w 0 16 = offset ∧ field w 21 5 = base
  | .lb rt offset base => field w 26 6 = 0x20#6 ∧ field w 16 5 = rt ∧ field w 0 16 = offset ∧ field w 21 5 = base
  | .lh rt offset base => field w 26 6 = 0x21#6 ∧ field w 16 5 = rt ∧ field w 0 16 = offset ∧ field w 21 5 = base
  | .lwl rt offset base => field w 26 6 = 0x22#6 ∧ field w 16 5 = rt ∧ field w 0 16 = offset ∧ field w 21 5 = base
  | .lw rt offset base => field w 26 6 = 0x23#6 ∧ field w 16 5 = rt ∧ field w 0 16 = offset ∧ field w 21 5 = base
  | .lbu rt offset base => field w 26 6 = 0x24#6 ∧ field w 16 5 = rt ∧ field w 0 16 = offset ∧ field w 21 5 = base
  | .lhu rt offset base => field w 26 6 = 0x25#6 ∧ field w 16 5 = rt ∧ field w 0 16 = offset ∧ field w 21 5 = base
  | .lwr rt offset base => field w 26 6 = 0x26#6 ∧ field w 16 5 = rt ∧ field w 0 16 = offset ∧ field w 21 5 = base
  | .lwu rt offset base => field w 26 6 = 0x27#6 ∧ field w 16 5 = rt ∧ field w 0 16 = offset ∧ field w 21 5 = base
  | .sb rt offset base => field w 26 6 = 0x28#6 ∧ field w 16 5 = rt ∧ field w 0 16 = offset ∧ field w 21 5 = base
  | .sh rt offset base => field w 26 6 = 0x29#6 ∧ field w 16 5 = rt ∧ field w 0 16 = offset ∧ field w 21 5 = base
  | .swl rt offset base => field w 26 6 = 0x2A#6 ∧ field w 16 5 = rt ∧ field w 0 16 = offset ∧ field w 21 5 = base
  | .sw rt offset base => field w 26 6 = 0x2B#6 ∧ field w 16 5 = rt ∧ field w 0 16 = offset ∧ field w 21 5 = base
  | .sdl rt offset base => field w 26 6 = 0x2C#6 ∧ field w 16 5 = rt ∧ field w 0 16 = offset ∧ field w 21 5 = base
  | .sdr rt offset base => field w 26 6 = 0x2D#6 ∧ field w 16 5 = rt ∧ field w 0 16 = offset ∧ field w 21 5 = base
  | .swr rt offset base => field w 26 6 = 0x2E#6 ∧ field w 16 5 = rt ∧ field w 0 16 = offset ∧ field w 21 5 = base
  | .cache op offset base => field w 26 6 = 0x2F#6 ∧ field w 16 5 = op ∧ field w 0 16 = offset ∧ field w 21 5 = base
  | .ll rt offset base => field w 26 6 = 0x30#6 ∧ field w 16 5 = rt ∧ field w 0 16 = offset ∧ field w 21 5 = base
  | .lwc1 ft offset base => field w 26 6 = 0x31#6 ∧ field w 16 5 = ft ∧ field w 0 16 = offset ∧ field w 21 5 = base
  | .lwc2 rt offset base => field w 26 6 = 0x32#6 ∧ field w 16 5 = rt ∧ field w 0 16 = offset ∧ field w 21 5 = base
  | .lld rt offset base => field w 26 6 = 0x34#6 ∧ field w 16 5 = rt ∧ field w 0 16 = offset ∧ field w 21 5 = base
  | .ldc1 ft offset base => field w 26 6 = 0x35#6 ∧ field w 16 5 = ft ∧ field w 0 16 = offset ∧ field w 21 5 = base
  | .ldc2 rt offset base => field w 26 6 = 0x36#6 ∧ field w 16 5 = rt ∧ field w 0 16 = offset ∧ field w 21 5 = base
  | .ld rt offset base => field w 26 6 = 0x37#6 ∧ field w 16 5 = rt ∧ field w 0 16 = offset ∧ field w 21 5 = base
  | .sc rt offset base => field w 26 6 = 0x38#6 ∧ field w 16 5 = rt ∧ field w 0 16 = offset ∧ field w 21 5 = base
  | .swc1 ft offset base => field w 26 6 = 0x39#6 ∧ field w 16 5 = ft ∧ field w 0 16 = offset ∧ field w 21 5 = base
  | .swc2 rt offset base => field w 26 6 = 0x3A#6 ∧ field w 16 5 = rt ∧ field w 0 16 = offset ∧ field w 21 5 = base
  | .scd rt offset base => field w 26 6 = 0x3C#6 ∧ field w 16 5 = rt ∧ field w 0 16 = offset ∧ field w 21 5 = base
  | .sdc1 ft offset base => field w 26 6 = 0x3D#6 ∧ field w 16 5 = ft ∧ field w 0 16 = offset ∧ field w 21 5 = base
  | .sdc2 rt offset base => field w 26 6 = 0x3E#6 ∧ field w 16 5 = rt ∧ field w 0 16 = offset ∧ field w 21 5 = base
  | .sd rt offset base => field w 26 6 = 0x3F#6 ∧ field w 16 5 = rt ∧ field w 0 16 = offset ∧ field w 21 5 = base
  | .mfc0 rt rd => field w 26 6 = 0x10#6 ∧ field w 21 5 = 0x00#5 ∧ field w 16 5 = rt ∧ field w 11 5 = rd
  | .dmfc0 rt rd => field w 26 6 = 0x10#6 ∧ field w 21 5 = 0x01#5 ∧ field w 16 5 = rt ∧ field w 11 5 = rd
  | .cfc0 rt rd => field w 26 6 = 0x10#6 ∧ field w 21 5 = 0x02#5 ∧ field w 16 5 = rt ∧ field w 11 5 = rd
  | .mtc0 rt rd => field w 26 6 = 0x10#6 ∧ field w 21 5 = 0x04#5 ∧ field w 16 5 = rt ∧ field w 11 5 = rd
  | .dmtc0 rt rd => field w 26 6 = 0x10#6 ∧ field w 21 5 = 0x05#5 ∧ field w 16 5 = rt ∧ field w 11 5 = rd
  | .ctc0 rt rd => field w 26 6 = 0x10#6 ∧ field w 21 5 = 0x06#5 ∧ field w 16 5 = rt ∧ field w 11 5 = rd
  | .bc0f offset => field w 26 6 = 0x10#6 ∧ field w 21 5 = 0x08#5 ∧ field w 16 5 = 0x00#5 ∧ field w 0 16 = offset
  | .bc0t offset => field w 26 6 = 0x10#6 ∧ field w 21 5 = 0x08#5 ∧ field w 16 5 = 0x01#5 ∧ field w 0 16 = offset
  | .tlbr => field w 26 6 = 0x10#6 ∧ field w 25 1 = 0x01#1 ∧ field w 0 6 = 0x01#6
  | .tlbwi => field w 26 6 = 0x10#6 ∧ field w 25 1 = 0x01#1 ∧ field w 0 6 = 0x02#6
  | .tlbwr => field w 26 6 = 0x10#6 ∧ field w 25 1 = 0x01#1 ∧ field w 0 6 = 0x06#6
  | .tlbp => field w 26 6 = 0x10#6 ∧ field w 25 1 = 0x01#1 ∧ field w 0 6 = 0x08#6
  | .eret => field w 26 6 = 0x10#6 ∧ field w 25 1 = 0x01#1 ∧ field w 0 6 = 0x18#6
  | .mfc1 rt fs => field w 26 6 = 0x11#6 ∧ field w 21 5 = 0x00#5 ∧ field w 16 5 = rt ∧ field w 11 5 = fs
  | .dmfc1 rt fs => field w 26 6 = 0x11#6 ∧ field w 21 5 = 0x01#5 ∧ field w 16 5 = rt ∧ field w 11 5 = fs
  | .cfc1 rt fs => field w 26 6 = 0x11#6 ∧ field w 21 5 = 0x02#5 ∧ field w 16 5 = rt ∧ field w 11 5 = fs
  | .mtc1 rt fs => field w 26 6 = 0x11#6 ∧ field w 21 5 = 0x04#5 ∧ field w 16 5 = rt ∧ field w 11 5 = fs
  | .dmtc1 rt fs => field w 26 6 = 0x11#6 ∧ field w 21 5 = 0x05#5 ∧ field w 16 5 = rt ∧ field w 11 5 = fs
  | .ctc1 rt fs => field w 26 6 = 0x11#6 ∧ field w 21 5 = 0x06#5 ∧ field w 16 5 = rt ∧ field w 11 5 = fs
  | .bc1f cc offset =>
    field w 26 6 = 0x11#6 ∧ field w 21 5 = 0x08#5 ∧ field w 16 2 = 0x00#2 ∧ field w 18 3 = BitVec.ofNat 3 cc ∧
    field w 0 16 = offset
  | .bc1t cc offset =>
    field w 26 6 = 0x11#6 ∧ field w 21 5 = 0x08#5 ∧ field w 16 2 = 0x01#2 ∧ field w 18 3 = BitVec.ofNat 3 cc ∧
    field w 0 16 = offset
  | .bc1fl cc offset =>
    field w 26 6 = 0x11#6 ∧ field w 21 5 = 0x08#5 ∧ field w 16 2 = 0x02#2 ∧ field w 18 3 = BitVec.ofNat 3 cc ∧
    field w 0 16 = offset
  | .bc1tl cc offset =>
    field w 26 6 = 0x11#6 ∧ field w 21 5 = 0x08#5 ∧ field w 16 2 = 0x03#2 ∧ field w 18 3 = BitVec.ofNat 3 cc ∧
    field w 0 16 = offset
  | .addS fd fs ft =>
    field w 26 6 = 0x11#6 ∧ field w 21 5 = 0x10#5 ∧ field w 0 6 = 0x00#6 ∧ field w 6 5 = fd ∧ field w 11 5 = fs ∧
    field w 16 5 = ft
  | .subS fd fs ft =>
    field w 26 6 = 0x11#6 ∧ field w 21 5 = 0x10#5 ∧ field w 0 6 = 0x01#6 ∧ field w 6 5 = fd ∧ field w 11 5 = fs ∧
    field w 16 5 = ft
  | .mulS fd fs ft =>
    field w 26 6 = 0x11#6 ∧ field w 21 5 = 0x10#5 ∧ field w 0 6 = 0x02#6 ∧ field w 6 5 = fd ∧ field w 11 5 = fs ∧
    field w 16 5 = ft
  | .divS fd fs ft =>
    field w 26 6 = 0x11#6 ∧ field w 21 5 = 0x10#5 ∧ field w 0 6 = 0x03#6 ∧ field w 6 5 = fd ∧ field w 11 5 = fs ∧
    field w 16 5 = ft
  | .sqrtS fd fs =>
    field w 26 6 = 0x11#6 ∧ field w 21 5 = 0x10#5 ∧ field w 0 6 = 0x04#6 ∧ field w 6 5 = fd ∧ field w 11 5 = fs
  | .absS fd fs =>
    field w 26 6 = 0x11#6 ∧ field w 21 5 = 0x10#5 ∧ field w 0 6 = 0x05#6 ∧ field w 6 5 = fd ∧ field w 11 5 = fs
  | .movS fd fs =>
    field w 26 6 = 0x11#6 ∧ field w 21 5 = 0x10#5 ∧ field w 0 6 = 0x06#6 ∧ field w 6 5 = fd ∧ field w 11 5 = fs
  | .negS fd fs =>
    field w 26 6 = 0x11#6 ∧ field w 21 5 = 0x10#5 ∧ field w 0 6 = 0x07#6 ∧ field w 6 5 = fd ∧ field w 11 5 = fs
  | .roundLS fd fs =>
    field w 26 6 = 0x11#6 ∧ field w 21 5 = 0x10#5 ∧ field w 0 6 = 0x08#6 ∧ field w 6 5 = fd ∧ field w 11 5 = fs
  | .truncLS fd fs =>
    field w 26 6 = 0x11#6 ∧ field w 21 5 = 0x10#5 ∧ field w 0 6 = 0x09#6 ∧ field w 6 5 = fd ∧ field w 11 5 = fs
  | .ceilLS fd fs =>
    field w 26 6 = 0x11#6 ∧ field w 21 5 = 0x10#5 ∧ field w 0 6 = 0x0A#6 ∧ field w 6 5 = fd ∧ field w 11 5 = fs
  | .floorLS fd fs =>
    field w 26 6 = 0x11#6 ∧ field w 21 5 = 0x10#5 ∧ field w 0 6 = 0x0B#6 ∧ field w 6 5 = fd ∧ field w 11 5 = fs
  | .roundWS fd fs =>
    field w 26 6 = 0x11#6 ∧ field w 21 5 = 0x10#5 ∧ field w 0 6 = 0x0C#6 ∧ field w 6 5 = fd ∧ field w 11 5 = fs
  | .truncWS fd fs =>
    field w 26 6 = 0x11#6 ∧ field w 21 5 = 0x10#5 ∧ field w 0 6 = 0x0D#6 ∧ field w 6 5 = fd ∧ field w 11 5 = fs
  | .ceilWS fd fs =>
    field w 26 6 = 0x11#6 ∧ field w 21 5 = 0x10#5 ∧ field w 0 6 = 0x0E#6 ∧ field w 6 5 = fd ∧ field w 11 5 = fs
  | .floorWS fd fs =>
    field w 26 6 = 0x11#6 ∧ field w 21 5 = 0x10#5 ∧ field w 0 6 = 0x0F#6 ∧ field w 6 5 = fd ∧ field w 11 5 = fs
  | .movfS fd fs cc =>
    field w 26 6 = 0x11#6 ∧ field w 21 5 = 0x10#5 ∧ field w 16 1 = 0x00#1 ∧ field w 0 6 = 0x11#6 ∧ field w 6 5 = fd ∧
    field w 11 5 = fs ∧ field w 18 3 = BitVec.ofNat 3 cc
  | .movtS fd fs cc =>
    field w 26 6 = 0x11#6 ∧ field w 21 5 = 0x10#5 ∧ field w 16 1 = 0x01#1 ∧ field w 0 6 = 0x11#6 ∧ field w 6 5 = fd ∧
    field w 11 5 = fs ∧ field w 18 3 = BitVec.ofNat 3 cc
  | .movzS fd fs rt =>
    field w 26 6 = 0x11#6 ∧ field w 21 5 = 0x10#5 ∧ field w 0 6 = 0x12#6 ∧ field w 6 5 = fd ∧ field w 11 5 = fs ∧
    field w 16 5 = rt
  | .movnS fd fs rt =>
    field w 26 6 = 0x11#6 ∧ field w 21 5 = 0x10#5 ∧ field w 0 6 = 0x13#6 ∧ field w 6 5 = fd ∧ field w 11 5 = fs ∧
    field w 16 5 = rt
  | .recipS fd fs =>
    field w 26 6 = 0x11#6 ∧ field w 21 5 = 0x10#5 ∧ field w 0 6 = 0x15#6 ∧ field w 6 5 = fd ∧ field w 11 5 = fs
  | .rsqrtS fd fs =>
    field w 26 6 = 0x11#6 ∧ field w 21 5 = 0x10#5 ∧ field w 0 6 = 0x16#6 ∧ field w 6 5 = fd ∧ field w 11 5 = fs
  | .addD fd fs ft =>
    field w 26 6 = 0x11#6 ∧ field w 21 5 = 0x11#5 ∧ field w 0 6 = 0x00#6 ∧ field w 6 5 = fd ∧ field w 11 5 = fs ∧
    field w 16 5 = ft
  | .subD fd fs ft =>
    field w 26 6 = 0x11#6 ∧ field w 21 5 = 0x11#5 ∧ field w 0 6 = 0x01#6 ∧ field w 6 5 = fd ∧ field w 11 5 = fs ∧
    field w 16 5 = ft
  | .mulD fd fs ft =>
    field w 26 6 = 0x11#6 ∧ field w 21 5 = 0x11#5 ∧ field w 0 6 = 0x02#6 ∧ field w 6 5 = fd ∧ field w 11 5 = fs ∧
    field w 16 5 = ft
  | .divD fd fs ft =>
    field w 26 6 = 0x11#6 ∧ field w 21 5 = 0x11#5 ∧ field w 0 6 = 0x03#6 ∧ field w 6 5 = fd ∧ field w 11 5 = fs ∧
    field w 16 5 = ft
  | .sqrtD fd fs =>
    field w 26 6 = 0x11#6 ∧ field w 21 5 = 0x11#5 ∧ field w 0 6 = 0x04#6 ∧ field w 6 5 = fd ∧ field w 11 5 = fs
  | .absD fd fs =>
    field w 26 6 = 0x11#6 ∧ field w 21 5 = 0x11#5 ∧ field w 0 6 = 0x05#6 ∧ field w 6 5 = fd ∧ field w 11 5 = fs
  | .movD fd fs =>
    field w 26 6 = 0x11#6 ∧ field w 21 5 = 0x11#5 ∧ field w 0 6 = 0x06#6 ∧ field w 6 5 = fd ∧ field w 11 5 = fs
  | .negD fd fs =>
    field w 26 6 = 0x11#6 ∧ field w 21 5 = 0x11#5 ∧ field w 0 6 = 0x07#6 ∧ field w 6 5 = fd ∧ field w 11 5 = fs
  | .roundLD fd fs =>
    field w 26 6 = 0x11#6 ∧ field w 21 5 = 0x11#5 ∧ field w 0 6 = 0x08#6 ∧ field w 6 5 = fd ∧ field w 11 5 = fs
  | .truncLD fd fs =>
    field w 26 6 = 0x11#6 ∧ field w 21 5 = 0x11#5 ∧ field w 0 6 = 0x09#6 ∧ field w 6 5 = fd ∧ field w 11 5 = fs
  | .ceilLD fd fs =>
    field w 26 6 = 0x11#6 ∧ field w 21 5 = 0x11#5 ∧ field w 0 6 = 0x0A#6 ∧ field w 6 5 = fd ∧ field w 11 5 = fs
  | .floorLD fd fs =>
    field w 26 6 = 0x11#6 ∧ field w 21 5 = 0x11#5 ∧ field w 0 6 = 0x0B#6 ∧ field w 6 5 = fd ∧ field w 11 5 = fs
  | .roundWD fd fs =>
    field w 26 6 = 0x11#6 ∧ field w 21 5 = 0x11#5 ∧ field w 0 6 = 0x0C#6 ∧ field w 6 5 = fd ∧ field w 11 5 = fs
  | .truncWD fd fs =>
    field w 26 6 = 0x11#6 ∧ field w 21 5 = 0x11#5 ∧ field w 0 6 = 0x0D#6 ∧ field w 6 5 = fd ∧ field w 11 5 = fs
  | .ceilWD fd fs =>
    field w 26 6 = 0x11#6 ∧ field w 21 5 = 0x11#5 ∧ field w 0 6 = 0x0E#6 ∧ field w 6 5 = fd ∧ field w 11 5 = fs
  | .floorWD fd fs =>
    field w 26 6 = 0x11#6 ∧ field w 21 5 = 0x11#5 ∧ field w 0 6 = 0x0F#6 ∧ field w 6 5 = fd ∧ field w 11 5 = fs
  | .movfD fd fs cc =>
    field w 26 6 = 0x11#6 ∧ field w 21 5 = 0x11#5 ∧ field w 16 1 = 0x00#1 ∧ field w 0 6 = 0x11#6 ∧ field w 6 5 = fd ∧
    field w 11 5 = fs ∧ field w 18 3 = BitVec.ofNat 3 cc
  | .movtD fd fs cc =>
    field w 26 6 = 0x11#6 ∧ field w 21 5 = 0x11#5 ∧ field w 16 1 = 0x01#1 ∧ field w 0 6 = 0x11#6 ∧ field w 6 5 = fd ∧
    field w 11 5 = fs ∧ field w 18 3 = BitVec.ofNat 3 cc
  | .movzD fd fs rt =>
    field w 26 6 = 0x11#6 ∧ field w 21 5 = 0x11#5 ∧ field w 0 6 = 0x12#6 ∧ field w 6 5 = fd ∧ field w 11 5 = fs ∧
    field w 16 5 = rt
  | .movnD fd fs rt =>
    field w 26 6 = 0x11#6 ∧ field w 21 5 = 0x11#5 ∧ field w 0 6 = 0x13#6 ∧ field w 6 5 = fd ∧ field w 11 5 = fs ∧
    field w 16 5 = rt
  | .recipD fd fs =>
    field w 26 6 = 0x11#6 ∧ field w 21 5 = 0x11#5 ∧ field w 0 6 = 0x15#6 ∧ field w 6 5 = fd ∧ field w 11 5 = fs
  | .rsqrtD fd fs =>
    field w 26 6 = 0x11#6 ∧ field w 21 5 = 0x11#5 ∧ field w 0 6 = 0x16#6 ∧ field w 6 5 = fd ∧ field w 11 5 = fs
  | .cvtSD fd fs =>
    field w 26 6 = 0x11#6 ∧ field w 21 5 = 0x11#5 ∧ field w 0 6 = 0x20#6 ∧ field w 6 5 = fd ∧ field w 11 5 = fs
  | .cvtSW fd fs =>
    field w 26 6 = 0x11#6 ∧ field w 21 5 = 0x14#5 ∧ field w 0 6 = 0x20#6 ∧ field w 6 5 = fd ∧ field w 11 5 = fs
  | .cvtSL fd fs =>
    field w 26 6 = 0x11#6 ∧ field w 21 5 = 0x15#5 ∧ field w 0 6 = 0x20#6 ∧ field w 6 5 = fd ∧ field w 11 5 = fs
  | .cvtDS fd fs =>
    field w 26 6 = 0x11#6 ∧ field w 21 5 = 0x10#5 ∧ field w 0 6 = 0x21#6 ∧ field w 6 5 = fd ∧ field w 11 5 = fs
  | .cvtDW fd fs =>
    field w 26 6 = 0x11#6 ∧ field w 21 5 = 0x14#5 ∧ field w 0 6 = 0x21#6 ∧ field w 6 5 = fd ∧ field w 11 5 = fs
  | .cvtDL fd fs =>
    field w 26 6 = 0x11#6 ∧ field w 21 5 = 0x15#5 ∧ field w 0 6 = 0x21#6 ∧ field w 6 5 = fd ∧ field w 11 5 = fs
  | .cvtWS fd fs =>
    field w 26 6 = 0x11#6 ∧ field w 21 5 = 0x10#5 ∧ field w 0 6 = 0x24#6 ∧ field w 6 5 = fd ∧ field w 11 5 = fs
  | .cvtWD fd fs =>
    field w 26 6 = 0x11#6 ∧ field w 21 5 = 0x11#5 ∧ field w 0 6 = 0x24#6 ∧ field w 6 5 = fd ∧ field w 11 5 = fs
  | .cvtLS fd fs =>
    field w 26 6 = 0x11#6 ∧ field w 21 5 = 0x10#5 ∧ field w 0 6 = 0x25#6 ∧ field w 6 5 = fd ∧ field w 11 5 = fs
  | .cvtLD fd fs =>
    field w 26 6 = 0x11#6 ∧ field w 21 5 = 0x11#5 ∧ field w 0 6 = 0x25#6 ∧ field w 6 5 = fd ∧ field w 11 5 = fs
  | .cFS cc fs ft =>
    field w 26 6 = 0x11#6 ∧ field w 21 5 = 0x10#5 ∧ field w 0 6 = 0x30#6 ∧ field w 8 3 = BitVec.ofNat 3 cc ∧
    field w 11 5 = fs ∧ field w 16 5 = ft
  | .cUnS cc fs ft =>
    field w 26 6 = 0x11#6 ∧ field w 21 5 = 0x10#5 ∧ field w 0 6 = 0x31#6 ∧ field w 8 3 = BitVec.ofNat 3 cc ∧
    field w 11 5 = fs ∧ field w 16 5 = ft
  | .cEqS cc fs ft =>
    field w 26 6 = 0x11#6 ∧ field w 21 5 = 0x10#5 ∧ field w 0 6 = 0x32#6 ∧ field w 8 3 = BitVec.ofNat 3 cc ∧
    field w 11 5 = fs ∧ field w 16 5 = ft
  | .cUeqS cc fs ft =>
    field w 26 6 = 0x11#6 ∧ field w 21 5 = 0x10#5 ∧ field w 0 6 = 0x33#6 ∧ field w 8 3 = BitVec.ofNat 3 cc ∧
    field w 11 5 = fs ∧ field w 16 5 = ft
  | .cOltS cc fs ft =>
    field w 26 6 = 0x11#6 ∧ field w 21 5 = 0x10#5 ∧ field w 0 6 = 0x34#6 ∧ field w 8 3 = BitVec.ofNat 3 cc ∧
    field w 11 5 = fs ∧ field w 16 5 = ft
  | .cUltS cc fs ft =>
    field w 26 6 = 0x11#6 ∧ field w 21 5 = 0x10#5 ∧ field w 0 6 = 0x35#6 ∧ field w 8 3 = BitVec.ofNat 3 cc ∧
    field w 11 5 = fs ∧ field w 16 5 = ft
  | .cOleS cc fs ft =>
    field w 26 6 = 0x11#6 ∧ field w 21 5 = 0x10#5 ∧ field w 0 6 = 0x36#6 ∧ field w 8 3 = BitVec.ofNat 3 cc ∧
    field w 11 5 = fs ∧ field w 16 5 = ft
  | .cUleS cc fs ft =>
    field w 26 6 = 0x11#6 ∧ field w 21 5 = 0x10#5 ∧ field w 0 6 = 0x37#6 ∧ field w 8 3 = BitVec.ofNat 3 cc ∧
    field w 11 5 = fs ∧ field w 16 5 = ft
  | .cSfS cc fs ft =>
    field w 26 6 = 0x11#6 ∧ field w 21 5 = 0x10#5 ∧ field w 0 6 = 0x38#6 ∧ field w 8 3 = BitVec.ofNat 3 cc ∧
    field w 11 5 = fs ∧ field w 16 5 = ft
  | .cNgleS cc fs ft =>
    field w 26 6 = 0x11#6 ∧ field w 21 5 = 0x10#5 ∧ field w 0 6 = 0x39#6 ∧ field w 8 3 = BitVec.ofNat 3 cc ∧
    field w 11 5 = fs ∧ field w 16 5 = ft
  | .cSeqS cc fs ft =>
    field w 26 6 = 0x11#6 ∧ field w 21 5 = 0x10#5 ∧ field w 0 6 = 0x3A#6 ∧ field w 8 3 = BitVec.ofNat 3 cc ∧
    field w 11 5 = fs ∧ field w 16 5 = ft
  | .cNglS cc fs ft =>
    field w 26 6 = 0x11#6 ∧ field w 21 5 = 0x10#5 ∧ field w 0 6 = 0x3B#6 ∧ field w 8 3 = BitVec.ofNat 3 cc ∧
    field w 11 5 = fs ∧ field w 16 5 = ft
  | .cLtS cc fs ft =>
    field w 26 6 = 0x11#6 ∧ field w 21 5 = 0x10#5 ∧ field w 0 6 = 0x3C#6 ∧ field w 8 3 = BitVec.ofNat 3 cc ∧
    field w 11 5 = fs ∧ field w 16 5 = ft
  | .cNgeS cc fs ft =>
    field w 26 6 = 0x11#6 ∧ field w 21 5 = 0x10#5 ∧ field w 0 6 = 0x3D#6 ∧ field w 8 3 = BitVec.ofNat 3 cc ∧
    field w 11 5 = fs ∧ field w 16 5 = ft
  | .cLeS cc fs ft =>
    field w 26 6 = 0x11#6 ∧ field w 21 5 = 0x10#5 ∧ field w 0 6 = 0x3E#6 ∧ field w 8 3 = BitVec.ofNat 3 cc ∧
    field w 11 5 = fs ∧ field w 16 5 = ft
  | .cNgtS cc fs ft =>
    field w 26 6 = 0x11#6 ∧ field w 21 5 = 0x10#5 ∧ field w 0 6 = 0x3F#6 ∧ field w 8 3 = BitVec.ofNat 3 cc ∧
    field w 11 5 = fs ∧ field w 16 5 = ft
  | .cFD cc fs ft =>
    field w 26 6 = 0x11#6 ∧ field w 21 5 = 0x11#5 ∧ field w 0 6 = 0x30#6 ∧ field w 8 3 = BitVec.ofNat 3 cc ∧
    field w 11 5 = fs ∧ field w 16 5 = ft
  | .cUnD cc fs ft =>
    field w 26 6 = 0x11#6 ∧ field w 21 5 = 0x11#5 ∧ field w 0 6 = 0x31#6 ∧ field w 8 3 = BitVec.ofNat 3 cc ∧
    field w 11 5 = fs ∧ field w 16 5 = ft
  | .cEqD cc fs ft =>
    field w 26 6 = 0x11#6 ∧ field w 21 5 = 0x11#5 ∧ field w 0 6 = 0x32#6 ∧ field w 8 3 = BitVec.ofNat 3 cc ∧
    field w 11 5 = fs ∧ field w 16 5 = ft
  | .cUeqD cc fs ft =>
    field w 26 6 = 0x11#6 ∧ field w 21 5 = 0x11#5 ∧ field w 0 6 = 0x33#6 ∧ field w 8 3 = BitVec.ofNat 3 cc ∧
    field w 11 5 = fs ∧ field w 16 5 = ft
  | .cOltD cc fs ft =>
    field w 26 6 = 0x11#6 ∧ field w 21 5 = 0x11#5 ∧ field w 0 6 = 0x34#6 ∧ field w 8 3 = BitVec.ofNat 3 cc ∧
    field w 11 5 = fs ∧ field w 16 5 = ft
  | .cUltD cc fs ft =>
    field w 26 6 = 0x11#6 ∧ field w 21 5 = 0x11#5 ∧ field w 0 6 = 0x35#6 ∧ field w 8 3 = BitVec.ofNat 3 cc ∧
    field w 11 5 = fs ∧ field w 16 5 = ft
  | .cOleD cc fs ft =>
    field w 26 6 = 0x11#6 ∧ field w 21 5 = 0x11#5 ∧ field w 0 6 = 0x36#6 ∧ field w 8 3 = BitVec.ofNat 3 cc ∧
    field w 11 5 = fs ∧ field w 16 5 = ft
  | .cUleD cc fs ft =>
    field w 26 6 = 0x11#6 ∧ field w 21 5 = 0x11#5 ∧ field w 0 6 = 0x37#6 ∧ field w 8 3 = BitVec.ofNat 3 cc ∧
    field w 11 5 = fs ∧ field w 16 5 = ft
  | .cSfD cc fs ft =>
    field w 26 6 = 0x11#6 ∧ field w 21 5 = 0x11#5 ∧ field w 0 6 = 0x38#6 ∧ field w 8 3 = BitVec.ofNat 3 cc ∧
    field w 11 5 = fs ∧ field w 16 5 = ft
  | .cNgleD cc fs ft =>
    field w 26 6 = 0x11#6 ∧ field w 21 5 = 0x11#5 ∧ field w 0 6 = 0x39#6 ∧ field w 8 3 = BitVec.ofNat 3 cc ∧
    field w 11 5 = fs ∧ field w 16 5 = ft
  | .cSeqD cc fs ft =>
    field w 26 6 = 0x11#6 ∧ field w 21 5 = 0x11#5 ∧ field w 0 6 = 0x3A#6 ∧ field w 8 3 = BitVec.ofNat 3 cc ∧
    field w 11 5 = fs ∧ field w 16 5 = ft
  | .cNglD cc fs ft =>
    field w 26 6 = 0x11#6 ∧ field w 21 5 = 0x11#5 ∧ field w 0 6 = 0x3B#6 ∧ field w 8 3 = BitVec.ofNat 3 cc ∧
    field w 11 5 = fs ∧ field w 16 5 = ft
  | .cLtD cc fs ft =>
    field w 26 6 = 0x11#6 ∧ field w 21 5 = 0x11#5 ∧ field w 0 6 = 0x3C#6 ∧ field w 8 3 = BitVec.ofNat 3 cc ∧
    field w 11 5 = fs ∧ field w 16 5 = ft
  | .cNgeD cc fs ft =>
    field w 26 6 = 0x11#6 ∧ field w 21 5 = 0x11#5 ∧ field w 0 6 = 0x3D#6 ∧ field w 8 3 = BitVec.ofNat 3 cc ∧
    field w 11 5 = fs ∧ field w 16 5 = ft
  | .cLeD cc fs ft =>
    field w 26 6 = 0x11#6 ∧ field w 21 5 = 0x11#5 ∧ field w 0 6 = 0x3E#6 ∧ field w 8 3 = BitVec.ofNat 3 cc ∧
    field w 11 5 = fs ∧ field w 16 5 = ft
  | .cNgtD cc fs ft =>
    field w 26 6 = 0x11#6 ∧ field w 21 5 = 0x11#5 ∧ field w 0 6 = 0x3F#6 ∧ field w 8 3 = BitVec.ofNat 3 cc ∧
    field w 11 5 = fs ∧ field w 16 5 = ft

theorem sll (rd : Reg) (rt : Reg) (sa : Nat) : Statement (.sll rd rt sa) :=
  by simp [Statement, encode, encodeR_fields]

theorem srl (rd : Reg) (rt : Reg) (sa : Nat) : Statement (.srl rd rt sa) :=
  by simp [Statement, encode, encodeR_fields]

theorem sra (rd : Reg) (rt : Reg) (sa : Nat) : Statement (.sra rd rt sa) :=
  by simp [Statement, encode, encodeR_fields]

theorem sllv (rd : Reg) (rt : Reg) (rs : Reg) : Statement (.sllv rd rt rs) :=
  by simp [Statement, encode, encodeR_fields]

theorem srlv (rd : Reg) (rt : Reg) (rs : Reg) : Statement (.srlv rd rt rs) :=
  by simp [Statement, encode, encodeR_fields]

theorem srav (rd : Reg) (rt : Reg) (rs : Reg) : Statement (.srav rd rt rs) :=
  by simp [Statement, encode, encodeR_fields]

theorem jr (rs : Reg) : Statement (.jr rs) := by simp [Statement, encode, encodeR_fields]

theorem jalr (rd : Reg) (rs : Reg) : Statement (.jalr rd rs) := by simp [Statement, encode, encodeR_fields]

theorem syscall (code : BitVec 20) : Statement (.syscall code) := by simp [Statement, encode, encodeCode_fields]

theorem brk (code : BitVec 20) : Statement (.brk code) := by simp [Statement, encode, encodeCode_fields]

theorem sync (stype : BitVec 5) : Statement (.sync stype) := by simp [Statement, encode, encodeR_fields]

theorem mfhi (rd : Reg) : Statement (.mfhi rd) := by simp [Statement, encode, encodeR_fields]

theorem mthi (rs : Reg) : Statement (.mthi rs) := by simp [Statement, encode, encodeR_fields]

theorem mflo (rd : Reg) : Statement (.mflo rd) := by simp [Statement, encode, encodeR_fields]

theorem mtlo (rs : Reg) : Statement (.mtlo rs) := by simp [Statement, encode, encodeR_fields]

theorem dsllv (rd : Reg) (rt : Reg) (rs : Reg) : Statement (.dsllv rd rt rs) :=
  by simp [Statement, encode, encodeR_fields]

theorem dsrlv (rd : Reg) (rt : Reg) (rs : Reg) : Statement (.dsrlv rd rt rs) :=
  by simp [Statement, encode, encodeR_fields]

theorem dsrav (rd : Reg) (rt : Reg) (rs : Reg) : Statement (.dsrav rd rt rs) :=
  by simp [Statement, encode, encodeR_fields]

theorem mult (rs : Reg) (rt : Reg) : Statement (.mult rs rt) := by simp [Statement, encode, encodeR_fields]

theorem multu (rs : Reg) (rt : Reg) : Statement (.multu rs rt) := by simp [Statement, encode, encodeR_fields]

theorem div (rs : Reg) (rt : Reg) : Statement (.div rs rt) := by simp [Statement, encode, encodeR_fields]

theorem divu (rs : Reg) (rt : Reg) : Statement (.divu rs rt) := by simp [Statement, encode, encodeR_fields]

theorem dmult (rs : Reg) (rt : Reg) : Statement (.dmult rs rt) := by simp [Statement, encode, encodeR_fields]

theorem dmultu (rs : Reg) (rt : Reg) : Statement (.dmultu rs rt) := by simp [Statement, encode, encodeR_fields]

theorem ddiv (rs : Reg) (rt : Reg) : Statement (.ddiv rs rt) := by simp [Statement, encode, encodeR_fields]

theorem ddivu (rs : Reg) (rt : Reg) : Statement (.ddivu rs rt) := by simp [Statement, encode, encodeR_fields]

theorem add (rd : Reg) (rs : Reg) (rt : Reg) : Statement (.add rd rs rt) :=
  by simp [Statement, encode, encodeR_fields]

theorem addu (rd : Reg) (rs : Reg) (rt : Reg) : Statement (.addu rd rs rt) :=
  by simp [Statement, encode, encodeR_fields]

theorem sub (rd : Reg) (rs : Reg) (rt : Reg) : Statement (.sub rd rs rt) :=
  by simp [Statement, encode, encodeR_fields]

theorem subu (rd : Reg) (rs : Reg) (rt : Reg) : Statement (.subu rd rs rt) :=
  by simp [Statement, encode, encodeR_fields]

theorem and (rd : Reg) (rs : Reg) (rt : Reg) : Statement (.and rd rs rt) :=
  by simp [Statement, encode, encodeR_fields]

theorem or (rd : Reg) (rs : Reg) (rt : Reg) : Statement (.or rd rs rt) := by simp [Statement, encode, encodeR_fields]

theorem xor (rd : Reg) (rs : Reg) (rt : Reg) : Statement (.xor rd rs rt) :=
  by simp [Statement, encode, encodeR_fields]

theorem nor (rd : Reg) (rs : Reg) (rt : Reg) : Statement (.nor rd rs rt) :=
  by simp [Statement, encode, encodeR_fields]

theorem slt (rd : Reg) (rs : Reg) (rt : Reg) : Statement (.slt rd rs rt) :=
  by simp [Statement, encode, encodeR_fields]

theorem sltu (rd : Reg) (rs : Reg) (rt : Reg) : Statement (.sltu rd rs rt) :=
  by simp [Statement, encode, encodeR_fields]

theorem dadd (rd : Reg) (rs : Reg) (rt : Reg) : Statement (.dadd rd rs rt) :=
  by simp [Statement, encode, encodeR_fields]

theorem daddu (rd : Reg) (rs : Reg) (rt : Reg) : Statement (.daddu rd rs rt) :=
  by simp [Statement, encode, encodeR_fields]

theorem dsub (rd : Reg) (rs : Reg) (rt : Reg) : Statement (.dsub rd rs rt) :=
  by simp [Statement, encode, encodeR_fields]

theorem dsubu (rd : Reg) (rs : Reg) (rt : Reg) : Statement (.dsubu rd rs rt) :=
  by simp [Statement, encode, encodeR_fields]

theorem tge (rs : Reg) (rt : Reg) (code : BitVec 10) : Statement (.tge rs rt code) :=
  by simp [Statement, encode, encodeTrap_fields]

theorem tgeu (rs : Reg) (rt : Reg) (code : BitVec 10) : Statement (.tgeu rs rt code) :=
  by simp [Statement, encode, encodeTrap_fields]

theorem tlt (rs : Reg) (rt : Reg) (code : BitVec 10) : Statement (.tlt rs rt code) :=
  by simp [Statement, encode, encodeTrap_fields]

theorem tltu (rs : Reg) (rt : Reg) (code : BitVec 10) : Statement (.tltu rs rt code) :=
  by simp [Statement, encode, encodeTrap_fields]

theorem teq (rs : Reg) (rt : Reg) (code : BitVec 10) : Statement (.teq rs rt code) :=
  by simp [Statement, encode, encodeTrap_fields]

theorem tne (rs : Reg) (rt : Reg) (code : BitVec 10) : Statement (.tne rs rt code) :=
  by simp [Statement, encode, encodeTrap_fields]

theorem dsll (rd : Reg) (rt : Reg) (sa : Nat) : Statement (.dsll rd rt sa) :=
  by simp [Statement, encode, encodeR_fields]

theorem dsrl (rd : Reg) (rt : Reg) (sa : Nat) : Statement (.dsrl rd rt sa) :=
  by simp [Statement, encode, encodeR_fields]

theorem dsra (rd : Reg) (rt : Reg) (sa : Nat) : Statement (.dsra rd rt sa) :=
  by simp [Statement, encode, encodeR_fields]

theorem dsll32 (rd : Reg) (rt : Reg) (sa : Nat) : Statement (.dsll32 rd rt sa) :=
  by simp [Statement, encode, encodeR_fields]

theorem dsrl32 (rd : Reg) (rt : Reg) (sa : Nat) : Statement (.dsrl32 rd rt sa) :=
  by simp [Statement, encode, encodeR_fields]

theorem dsra32 (rd : Reg) (rt : Reg) (sa : Nat) : Statement (.dsra32 rd rt sa) :=
  by simp [Statement, encode, encodeR_fields]

theorem bltz (rs : Reg) (offset : Imm16) : Statement (.bltz rs offset) := by simp [Statement, encode, encodeI_fields]

theorem bgez (rs : Reg) (offset : Imm16) : Statement (.bgez rs offset) := by simp [Statement, encode, encodeI_fields]

theorem bltzl (rs : Reg) (offset : Imm16) : Statement (.bltzl rs offset) :=
  by simp [Statement, encode, encodeI_fields]

theorem bgezl (rs : Reg) (offset : Imm16) : Statement (.bgezl rs offset) :=
  by simp [Statement, encode, encodeI_fields]

theorem tgei (rs : Reg) (imm : Imm16) : Statement (.tgei rs imm) := by simp [Statement, encode, encodeI_fields]

theorem tgeiu (rs : Reg) (imm : Imm16) : Statement (.tgeiu rs imm) := by simp [Statement, encode, encodeI_fields]

theorem tlti (rs : Reg) (imm : Imm16) : Statement (.tlti rs imm) := by simp [Statement, encode, encodeI_fields]

theorem tltiu (rs : Reg) (imm : Imm16) : Statement (.tltiu rs imm) := by simp [Statement, encode, encodeI_fields]

theorem teqi (rs : Reg) (imm : Imm16) : Statement (.teqi rs imm) := by simp [Statement, encode, encodeI_fields]

theorem tnei (rs : Reg) (imm : Imm16) : Statement (.tnei rs imm) := by simp [Statement, encode, encodeI_fields]

theorem bltzal (rs : Reg) (offset : Imm16) : Statement (.bltzal rs offset) :=
  by simp [Statement, encode, encodeI_fields]

theorem bgezal (rs : Reg) (offset : Imm16) : Statement (.bgezal rs offset) :=
  by simp [Statement, encode, encodeI_fields]

theorem bltzall (rs : Reg) (offset : Imm16) : Statement (.bltzall rs offset) :=
  by simp [Statement, encode, encodeI_fields]

theorem bgezall (rs : Reg) (offset : Imm16) : Statement (.bgezall rs offset) :=
  by simp [Statement, encode, encodeI_fields]

theorem j (target : BitVec 26) : Statement (.j target) := by simp [Statement, encode, encodeJ_fields]

theorem jal (target : BitVec 26) : Statement (.jal target) := by simp [Statement, encode, encodeJ_fields]

theorem beq (rs : Reg) (rt : Reg) (offset : Imm16) : Statement (.beq rs rt offset) :=
  by simp [Statement, encode, encodeI_fields]

theorem bne (rs : Reg) (rt : Reg) (offset : Imm16) : Statement (.bne rs rt offset) :=
  by simp [Statement, encode, encodeI_fields]

theorem blez (rs : Reg) (offset : Imm16) : Statement (.blez rs offset) := by simp [Statement, encode, encodeI_fields]

theorem bgtz (rs : Reg) (offset : Imm16) : Statement (.bgtz rs offset) := by simp [Statement, encode, encodeI_fields]

theorem addi (rt : Reg) (rs : Reg) (imm : Imm16) : Statement (.addi rt rs imm) :=
  by simp [Statement, encode, encodeI_fields]

theorem addiu (rt : Reg) (rs : Reg) (imm : Imm16) : Statement (.addiu rt rs imm) :=
  by simp [Statement, encode, encodeI_fields]

theorem slti (rt : Reg) (rs : Reg) (imm : Imm16) : Statement (.slti rt rs imm) :=
  by simp [Statement, encode, encodeI_fields]

theorem sltiu (rt : Reg) (rs : Reg) (imm : Imm16) : Statement (.sltiu rt rs imm) :=
  by simp [Statement, encode, encodeI_fields]

theorem andi (rt : Reg) (rs : Reg) (imm : Imm16) : Statement (.andi rt rs imm) :=
  by simp [Statement, encode, encodeI_fields]

theorem ori (rt : Reg) (rs : Reg) (imm : Imm16) : Statement (.ori rt rs imm) :=
  by simp [Statement, encode, encodeI_fields]

theorem xori (rt : Reg) (rs : Reg) (imm : Imm16) : Statement (.xori rt rs imm) :=
  by simp [Statement, encode, encodeI_fields]

theorem lui (rt : Reg) (imm : Imm16) : Statement (.lui rt imm) := by simp [Statement, encode, encodeI_fields]

theorem cop2 (cofun : BitVec 26) : Statement (.cop2 cofun) := by simp [Statement, encode, encodeJ_fields]

theorem beql (rs : Reg) (rt : Reg) (offset : Imm16) : Statement (.beql rs rt offset) :=
  by simp [Statement, encode, encodeI_fields]

theorem bnel (rs : Reg) (rt : Reg) (offset : Imm16) : Statement (.bnel rs rt offset) :=
  by simp [Statement, encode, encodeI_fields]

theorem blezl (rs : Reg) (offset : Imm16) : Statement (.blezl rs offset) :=
  by simp [Statement, encode, encodeI_fields]

theorem bgtzl (rs : Reg) (offset : Imm16) : Statement (.bgtzl rs offset) :=
  by simp [Statement, encode, encodeI_fields]

theorem daddi (rt : Reg) (rs : Reg) (imm : Imm16) : Statement (.daddi rt rs imm) :=
  by simp [Statement, encode, encodeI_fields]

theorem daddiu (rt : Reg) (rs : Reg) (imm : Imm16) : Statement (.daddiu rt rs imm) :=
  by simp [Statement, encode, encodeI_fields]

theorem ldl (rt : Reg) (offset : Imm16) (base : Reg) : Statement (.ldl rt offset base) :=
  by simp [Statement, encode, encodeI_fields]

theorem ldr (rt : Reg) (offset : Imm16) (base : Reg) : Statement (.ldr rt offset base) :=
  by simp [Statement, encode, encodeI_fields]

theorem lb (rt : Reg) (offset : Imm16) (base : Reg) : Statement (.lb rt offset base) :=
  by simp [Statement, encode, encodeI_fields]

theorem lh (rt : Reg) (offset : Imm16) (base : Reg) : Statement (.lh rt offset base) :=
  by simp [Statement, encode, encodeI_fields]

theorem lwl (rt : Reg) (offset : Imm16) (base : Reg) : Statement (.lwl rt offset base) :=
  by simp [Statement, encode, encodeI_fields]

theorem lw (rt : Reg) (offset : Imm16) (base : Reg) : Statement (.lw rt offset base) :=
  by simp [Statement, encode, encodeI_fields]

theorem lbu (rt : Reg) (offset : Imm16) (base : Reg) : Statement (.lbu rt offset base) :=
  by simp [Statement, encode, encodeI_fields]

theorem lhu (rt : Reg) (offset : Imm16) (base : Reg) : Statement (.lhu rt offset base) :=
  by simp [Statement, encode, encodeI_fields]

theorem lwr (rt : Reg) (offset : Imm16) (base : Reg) : Statement (.lwr rt offset base) :=
  by simp [Statement, encode, encodeI_fields]

theorem lwu (rt : Reg) (offset : Imm16) (base : Reg) : Statement (.lwu rt offset base) :=
  by simp [Statement, encode, encodeI_fields]

theorem sb (rt : Reg) (offset : Imm16) (base : Reg) : Statement (.sb rt offset base) :=
  by simp [Statement, encode, encodeI_fields]

theorem sh (rt : Reg) (offset : Imm16) (base : Reg) : Statement (.sh rt offset base) :=
  by simp [Statement, encode, encodeI_fields]

theorem swl (rt : Reg) (offset : Imm16) (base : Reg) : Statement (.swl rt offset base) :=
  by simp [Statement, encode, encodeI_fields]

theorem sw (rt : Reg) (offset : Imm16) (base : Reg) : Statement (.sw rt offset base) :=
  by simp [Statement, encode, encodeI_fields]

theorem sdl (rt : Reg) (offset : Imm16) (base : Reg) : Statement (.sdl rt offset base) :=
  by simp [Statement, encode, encodeI_fields]

theorem sdr (rt : Reg) (offset : Imm16) (base : Reg) : Statement (.sdr rt offset base) :=
  by simp [Statement, encode, encodeI_fields]

theorem swr (rt : Reg) (offset : Imm16) (base : Reg) : Statement (.swr rt offset base) :=
  by simp [Statement, encode, encodeI_fields]

theorem cache (op : BitVec 5) (offset : Imm16) (base : Reg) : Statement (.cache op offset base) :=
  by simp [Statement, encode, encodeI_fields]

theorem ll (rt : Reg) (offset : Imm16) (base : Reg) : Statement (.ll rt offset base) :=
  by simp [Statement, encode, encodeI_fields]

theorem lwc1 (ft : Reg) (offset : Imm16) (base : Reg) : Statement (.lwc1 ft offset base) :=
  by simp [Statement, encode, encodeI_fields]

theorem lwc2 (rt : Reg) (offset : Imm16) (base : Reg) : Statement (.lwc2 rt offset base) :=
  by simp [Statement, encode, encodeI_fields]

theorem lld (rt : Reg) (offset : Imm16) (base : Reg) : Statement (.lld rt offset base) :=
  by simp [Statement, encode, encodeI_fields]

theorem ldc1 (ft : Reg) (offset : Imm16) (base : Reg) : Statement (.ldc1 ft offset base) :=
  by simp [Statement, encode, encodeI_fields]

theorem ldc2 (rt : Reg) (offset : Imm16) (base : Reg) : Statement (.ldc2 rt offset base) :=
  by simp [Statement, encode, encodeI_fields]

theorem ld (rt : Reg) (offset : Imm16) (base : Reg) : Statement (.ld rt offset base) :=
  by simp [Statement, encode, encodeI_fields]

theorem sc (rt : Reg) (offset : Imm16) (base : Reg) : Statement (.sc rt offset base) :=
  by simp [Statement, encode, encodeI_fields]

theorem swc1 (ft : Reg) (offset : Imm16) (base : Reg) : Statement (.swc1 ft offset base) :=
  by simp [Statement, encode, encodeI_fields]

theorem swc2 (rt : Reg) (offset : Imm16) (base : Reg) : Statement (.swc2 rt offset base) :=
  by simp [Statement, encode, encodeI_fields]

theorem scd (rt : Reg) (offset : Imm16) (base : Reg) : Statement (.scd rt offset base) :=
  by simp [Statement, encode, encodeI_fields]

theorem sdc1 (ft : Reg) (offset : Imm16) (base : Reg) : Statement (.sdc1 ft offset base) :=
  by simp [Statement, encode, encodeI_fields]

theorem sdc2 (rt : Reg) (offset : Imm16) (base : Reg) : Statement (.sdc2 rt offset base) :=
  by simp [Statement, encode, encodeI_fields]

theorem sd (rt : Reg) (offset : Imm16) (base : Reg) : Statement (.sd rt offset base) :=
  by simp [Statement, encode, encodeI_fields]

theorem mfc0 (rt : Reg) (rd : Reg) : Statement (.mfc0 rt rd) := by simp [Statement, encode, encodeCM_fields]

theorem dmfc0 (rt : Reg) (rd : Reg) : Statement (.dmfc0 rt rd) := by simp [Statement, encode, encodeCM_fields]

theorem cfc0 (rt : Reg) (rd : Reg) : Statement (.cfc0 rt rd) := by simp [Statement, encode, encodeCM_fields]

theorem mtc0 (rt : Reg) (rd : Reg) : Statement (.mtc0 rt rd) := by simp [Statement, encode, encodeCM_fields]

theorem dmtc0 (rt : Reg) (rd : Reg) : Statement (.dmtc0 rt rd) := by simp [Statement, encode, encodeCM_fields]

theorem ctc0 (rt : Reg) (rd : Reg) : Statement (.ctc0 rt rd) := by simp [Statement, encode, encodeCM_fields]

theorem bc0f (offset : Imm16) : Statement (.bc0f offset) := by simp [Statement, encode, encodeI_fields]

theorem bc0t (offset : Imm16) : Statement (.bc0t offset) := by simp [Statement, encode, encodeI_fields]

theorem tlbr : Statement (.tlbr) := by simp [Statement, encode, encodeC0_fields]

theorem tlbwi : Statement (.tlbwi) := by simp [Statement, encode, encodeC0_fields]

theorem tlbwr : Statement (.tlbwr) := by simp [Statement, encode, encodeC0_fields]

theorem tlbp : Statement (.tlbp) := by simp [Statement, encode, encodeC0_fields]

theorem eret : Statement (.eret) := by simp [Statement, encode, encodeC0_fields]

theorem mfc1 (rt : Reg) (fs : Reg) : Statement (.mfc1 rt fs) := by simp [Statement, encode, encodeCM_fields]

theorem dmfc1 (rt : Reg) (fs : Reg) : Statement (.dmfc1 rt fs) := by simp [Statement, encode, encodeCM_fields]

theorem cfc1 (rt : Reg) (fs : Reg) : Statement (.cfc1 rt fs) := by simp [Statement, encode, encodeCM_fields]

theorem mtc1 (rt : Reg) (fs : Reg) : Statement (.mtc1 rt fs) := by simp [Statement, encode, encodeCM_fields]

theorem dmtc1 (rt : Reg) (fs : Reg) : Statement (.dmtc1 rt fs) := by simp [Statement, encode, encodeCM_fields]

theorem ctc1 (rt : Reg) (fs : Reg) : Statement (.ctc1 rt fs) := by simp [Statement, encode, encodeCM_fields]

theorem bc1f (cc : Nat) (offset : Imm16) : Statement (.bc1f cc offset) := by simp [Statement, encode, encodeCB_fields]

theorem bc1t (cc : Nat) (offset : Imm16) : Statement (.bc1t cc offset) := by simp [Statement, encode, encodeCB_fields]

theorem bc1fl (cc : Nat) (offset : Imm16) : Statement (.bc1fl cc offset) :=
  by simp [Statement, encode, encodeCB_fields]

theorem bc1tl (cc : Nat) (offset : Imm16) : Statement (.bc1tl cc offset) :=
  by simp [Statement, encode, encodeCB_fields]

theorem addS (fd : Reg) (fs : Reg) (ft : Reg) : Statement (.addS fd fs ft) :=
  by simp [Statement, encode, encodeFR_fields]

theorem subS (fd : Reg) (fs : Reg) (ft : Reg) : Statement (.subS fd fs ft) :=
  by simp [Statement, encode, encodeFR_fields]

theorem mulS (fd : Reg) (fs : Reg) (ft : Reg) : Statement (.mulS fd fs ft) :=
  by simp [Statement, encode, encodeFR_fields]

theorem divS (fd : Reg) (fs : Reg) (ft : Reg) : Statement (.divS fd fs ft) :=
  by simp [Statement, encode, encodeFR_fields]

theorem sqrtS (fd : Reg) (fs : Reg) : Statement (.sqrtS fd fs) := by simp [Statement, encode, encodeFR_fields]

theorem absS (fd : Reg) (fs : Reg) : Statement (.absS fd fs) := by simp [Statement, encode, encodeFR_fields]

theorem movS (fd : Reg) (fs : Reg) : Statement (.movS fd fs) := by simp [Statement, encode, encodeFR_fields]

theorem negS (fd : Reg) (fs : Reg) : Statement (.negS fd fs) := by simp [Statement, encode, encodeFR_fields]

theorem roundLS (fd : Reg) (fs : Reg) : Statement (.roundLS fd fs) := by simp [Statement, encode, encodeFR_fields]

theorem truncLS (fd : Reg) (fs : Reg) : Statement (.truncLS fd fs) := by simp [Statement, encode, encodeFR_fields]

theorem ceilLS (fd : Reg) (fs : Reg) : Statement (.ceilLS fd fs) := by simp [Statement, encode, encodeFR_fields]

theorem floorLS (fd : Reg) (fs : Reg) : Statement (.floorLS fd fs) := by simp [Statement, encode, encodeFR_fields]

theorem roundWS (fd : Reg) (fs : Reg) : Statement (.roundWS fd fs) := by simp [Statement, encode, encodeFR_fields]

theorem truncWS (fd : Reg) (fs : Reg) : Statement (.truncWS fd fs) := by simp [Statement, encode, encodeFR_fields]

theorem ceilWS (fd : Reg) (fs : Reg) : Statement (.ceilWS fd fs) := by simp [Statement, encode, encodeFR_fields]

theorem floorWS (fd : Reg) (fs : Reg) : Statement (.floorWS fd fs) := by simp [Statement, encode, encodeFR_fields]

theorem movfS (fd : Reg) (fs : Reg) (cc : Nat) : Statement (.movfS fd fs cc) :=
  by simp [Statement, encode, encodeFM_fields]

theorem movtS (fd : Reg) (fs : Reg) (cc : Nat) : Statement (.movtS fd fs cc) :=
  by simp [Statement, encode, encodeFM_fields]

theorem movzS (fd : Reg) (fs : Reg) (rt : Reg) : Statement (.movzS fd fs rt) :=
  by simp [Statement, encode, encodeFR_fields]

theorem movnS (fd : Reg) (fs : Reg) (rt : Reg) : Statement (.movnS fd fs rt) :=
  by simp [Statement, encode, encodeFR_fields]

theorem recipS (fd : Reg) (fs : Reg) : Statement (.recipS fd fs) := by simp [Statement, encode, encodeFR_fields]

theorem rsqrtS (fd : Reg) (fs : Reg) : Statement (.rsqrtS fd fs) := by simp [Statement, encode, encodeFR_fields]

theorem addD (fd : Reg) (fs : Reg) (ft : Reg) : Statement (.addD fd fs ft) :=
  by simp [Statement, encode, encodeFR_fields]

theorem subD (fd : Reg) (fs : Reg) (ft : Reg) : Statement (.subD fd fs ft) :=
  by simp [Statement, encode, encodeFR_fields]

theorem mulD (fd : Reg) (fs : Reg) (ft : Reg) : Statement (.mulD fd fs ft) :=
  by simp [Statement, encode, encodeFR_fields]

theorem divD (fd : Reg) (fs : Reg) (ft : Reg) : Statement (.divD fd fs ft) :=
  by simp [Statement, encode, encodeFR_fields]

theorem sqrtD (fd : Reg) (fs : Reg) : Statement (.sqrtD fd fs) := by simp [Statement, encode, encodeFR_fields]

theorem absD (fd : Reg) (fs : Reg) : Statement (.absD fd fs) := by simp [Statement, encode, encodeFR_fields]

theorem movD (fd : Reg) (fs : Reg) : Statement (.movD fd fs) := by simp [Statement, encode, encodeFR_fields]

theorem negD (fd : Reg) (fs : Reg) : Statement (.negD fd fs) := by simp [Statement, encode, encodeFR_fields]

theorem roundLD (fd : Reg) (fs : Reg) : Statement (.roundLD fd fs) := by simp [Statement, encode, encodeFR_fields]

theorem truncLD (fd : Reg) (fs : Reg) : Statement (.truncLD fd fs) := by simp [Statement, encode, encodeFR_fields]

theorem ceilLD (fd : Reg) (fs : Reg) : Statement (.ceilLD fd fs) := by simp [Statement, encode, encodeFR_fields]

theorem floorLD (fd : Reg) (fs : Reg) : Statement (.floorLD fd fs) := by simp [Statement, encode, encodeFR_fields]

theorem roundWD (fd : Reg) (fs : Reg) : Statement (.roundWD fd fs) := by simp [Statement, encode, encodeFR_fields]

theorem truncWD (fd : Reg) (fs : Reg) : Statement (.truncWD fd fs) := by simp [Statement, encode, encodeFR_fields]

theorem ceilWD (fd : Reg) (fs : Reg) : Statement (.ceilWD fd fs) := by simp [Statement, encode, encodeFR_fields]

theorem floorWD (fd : Reg) (fs : Reg) : Statement (.floorWD fd fs) := by simp [Statement, encode, encodeFR_fields]

theorem movfD (fd : Reg) (fs : Reg) (cc : Nat) : Statement (.movfD fd fs cc) :=
  by simp [Statement, encode, encodeFM_fields]

theorem movtD (fd : Reg) (fs : Reg) (cc : Nat) : Statement (.movtD fd fs cc) :=
  by simp [Statement, encode, encodeFM_fields]

theorem movzD (fd : Reg) (fs : Reg) (rt : Reg) : Statement (.movzD fd fs rt) :=
  by simp [Statement, encode, encodeFR_fields]

theorem movnD (fd : Reg) (fs : Reg) (rt : Reg) : Statement (.movnD fd fs rt) :=
  by simp [Statement, encode, encodeFR_fields]

theorem recipD (fd : Reg) (fs : Reg) : Statement (.recipD fd fs) := by simp [Statement, encode, encodeFR_fields]

theorem rsqrtD (fd : Reg) (fs : Reg) : Statement (.rsqrtD fd fs) := by simp [Statement, encode, encodeFR_fields]

theorem cvtSD (fd : Reg) (fs : Reg) : Statement (.cvtSD fd fs) := by simp [Statement, encode, encodeFR_fields]

theorem cvtSW (fd : Reg) (fs : Reg) : Statement (.cvtSW fd fs) := by simp [Statement, encode, encodeFR_fields]

theorem cvtSL (fd : Reg) (fs : Reg) : Statement (.cvtSL fd fs) := by simp [Statement, encode, encodeFR_fields]

theorem cvtDS (fd : Reg) (fs : Reg) : Statement (.cvtDS fd fs) := by simp [Statement, encode, encodeFR_fields]

theorem cvtDW (fd : Reg) (fs : Reg) : Statement (.cvtDW fd fs) := by simp [Statement, encode, encodeFR_fields]

theorem cvtDL (fd : Reg) (fs : Reg) : Statement (.cvtDL fd fs) := by simp [Statement, encode, encodeFR_fields]

theorem cvtWS (fd : Reg) (fs : Reg) : Statement (.cvtWS fd fs) := by simp [Statement, encode, encodeFR_fields]

theorem cvtWD (fd : Reg) (fs : Reg) : Statement (.cvtWD fd fs) := by simp [Statement, encode, encodeFR_fields]

theorem cvtLS (fd : Reg) (fs : Reg) : Statement (.cvtLS fd fs) := by simp [Statement, encode, encodeFR_fields]

theorem cvtLD (fd : Reg) (fs : Reg) : Statement (.cvtLD fd fs) := by simp [Statement, encode, encodeFR_fields]

theorem cFS (cc : Nat) (fs : Reg) (ft : Reg) : Statement (.cFS cc fs ft) :=
  by simp [Statement, encode, encodeFC_fields]

theorem cUnS (cc : Nat) (fs : Reg) (ft : Reg) : Statement (.cUnS cc fs ft) :=
  by simp [Statement, encode, encodeFC_fields]

theorem cEqS (cc : Nat) (fs : Reg) (ft : Reg) : Statement (.cEqS cc fs ft) :=
  by simp [Statement, encode, encodeFC_fields]

theorem cUeqS (cc : Nat) (fs : Reg) (ft : Reg) : Statement (.cUeqS cc fs ft) :=
  by simp [Statement, encode, encodeFC_fields]

theorem cOltS (cc : Nat) (fs : Reg) (ft : Reg) : Statement (.cOltS cc fs ft) :=
  by simp [Statement, encode, encodeFC_fields]

theorem cUltS (cc : Nat) (fs : Reg) (ft : Reg) : Statement (.cUltS cc fs ft) :=
  by simp [Statement, encode, encodeFC_fields]

theorem cOleS (cc : Nat) (fs : Reg) (ft : Reg) : Statement (.cOleS cc fs ft) :=
  by simp [Statement, encode, encodeFC_fields]

theorem cUleS (cc : Nat) (fs : Reg) (ft : Reg) : Statement (.cUleS cc fs ft) :=
  by simp [Statement, encode, encodeFC_fields]

theorem cSfS (cc : Nat) (fs : Reg) (ft : Reg) : Statement (.cSfS cc fs ft) :=
  by simp [Statement, encode, encodeFC_fields]

theorem cNgleS (cc : Nat) (fs : Reg) (ft : Reg) : Statement (.cNgleS cc fs ft) :=
  by simp [Statement, encode, encodeFC_fields]

theorem cSeqS (cc : Nat) (fs : Reg) (ft : Reg) : Statement (.cSeqS cc fs ft) :=
  by simp [Statement, encode, encodeFC_fields]

theorem cNglS (cc : Nat) (fs : Reg) (ft : Reg) : Statement (.cNglS cc fs ft) :=
  by simp [Statement, encode, encodeFC_fields]

theorem cLtS (cc : Nat) (fs : Reg) (ft : Reg) : Statement (.cLtS cc fs ft) :=
  by simp [Statement, encode, encodeFC_fields]

theorem cNgeS (cc : Nat) (fs : Reg) (ft : Reg) : Statement (.cNgeS cc fs ft) :=
  by simp [Statement, encode, encodeFC_fields]

theorem cLeS (cc : Nat) (fs : Reg) (ft : Reg) : Statement (.cLeS cc fs ft) :=
  by simp [Statement, encode, encodeFC_fields]

theorem cNgtS (cc : Nat) (fs : Reg) (ft : Reg) : Statement (.cNgtS cc fs ft) :=
  by simp [Statement, encode, encodeFC_fields]

theorem cFD (cc : Nat) (fs : Reg) (ft : Reg) : Statement (.cFD cc fs ft) :=
  by simp [Statement, encode, encodeFC_fields]

theorem cUnD (cc : Nat) (fs : Reg) (ft : Reg) : Statement (.cUnD cc fs ft) :=
  by simp [Statement, encode, encodeFC_fields]

theorem cEqD (cc : Nat) (fs : Reg) (ft : Reg) : Statement (.cEqD cc fs ft) :=
  by simp [Statement, encode, encodeFC_fields]

theorem cUeqD (cc : Nat) (fs : Reg) (ft : Reg) : Statement (.cUeqD cc fs ft) :=
  by simp [Statement, encode, encodeFC_fields]

theorem cOltD (cc : Nat) (fs : Reg) (ft : Reg) : Statement (.cOltD cc fs ft) :=
  by simp [Statement, encode, encodeFC_fields]

theorem cUltD (cc : Nat) (fs : Reg) (ft : Reg) : Statement (.cUltD cc fs ft) :=
  by simp [Statement, encode, encodeFC_fields]

theorem cOleD (cc : Nat) (fs : Reg) (ft : Reg) : Statement (.cOleD cc fs ft) :=
  by simp [Statement, encode, encodeFC_fields]

theorem cUleD (cc : Nat) (fs : Reg) (ft : Reg) : Statement (.cUleD cc fs ft) :=
  by simp [Statement, encode, encodeFC_fields]

theorem cSfD (cc : Nat) (fs : Reg) (ft : Reg) : Statement (.cSfD cc fs ft) :=
  by simp [Statement, encode, encodeFC_fields]

theorem cNgleD (cc : Nat) (fs : Reg) (ft : Reg) : Statement (.cNgleD cc fs ft) :=
  by simp [Statement, encode, encodeFC_fields]

theorem cSeqD (cc : Nat) (fs : Reg) (ft : Reg) : Statement (.cSeqD cc fs ft) :=
  by simp [Statement, encode, encodeFC_fields]

theorem cNglD (cc : Nat) (fs : Reg) (ft : Reg) : Statement (.cNglD cc fs ft) :=
  by simp [Statement, encode, encodeFC_fields]

theorem cLtD (cc : Nat) (fs : Reg) (ft : Reg) : Statement (.cLtD cc fs ft) :=
  by simp [Statement, encode, encodeFC_fields]

theorem cNgeD (cc : Nat) (fs : Reg) (ft : Reg) : Statement (.cNgeD cc fs ft) :=
  by simp [Statement, encode, encodeFC_fields]

theorem cLeD (cc : Nat) (fs : Reg) (ft : Reg) : Statement (.cLeD cc fs ft) :=
  by simp [Statement, encode, encodeFC_fields]

theorem cNgtD (cc : Nat) (fs : Reg) (ft : Reg) : Statement (.cNgtD cc fs ft) :=
  by simp [Statement, encode, encodeFC_fields]

end Sys2Proof.Laws.TableFields
end

