-- ==== Sys2Proof/Laws/Step.lean ====
section
/-! SUPPORT. What a step can do: what its start and its end leave alone, and the two ways in which it completes. -/

namespace Sys2Proof.Machine

variable {s t : State}

/-! ### The mode -/

/-- The mode is a function of Status (R64). -/
theorem mode_congr (h : t.cp0.status = s.cp0.status) : mode t = mode s := by
  simp [mode, statusExl, statusErl, statusBit, statusKsu, h]

@[simp] theorem mode_retire (s : State) : mode (retire s) = mode s := mode_congr (by simp)

/-- An exception enters kernel mode (R500, R525). -/
@[simp] theorem mode_raise (e : Exc) (s : State) : mode (raise e s) = some .kernel := by
  simp [mode, statusExl, statusBit, raise]

/-! ### The start of a step -/

/-- All that the environment and the timer can have changed (R9, R510, R523). -/
def EnvironmentChanged (s t : State) : Prop :=
  ∃ cause deadline cycles inputs mem, t = { s with
    cp0 := { s.cp0 with cause := cause }
    timerDeadline := deadline
    cycles := cycles
    inputs := inputs
    mem := mem }

theorem EnvironmentChanged.trans {u : State} (h : EnvironmentChanged s t) (k : EnvironmentChanged t u) :
    EnvironmentChanged s u := by
  obtain ⟨_, _, _, _, _, rfl⟩ := h
  obtain ⟨c, d, y, i, m, rfl⟩ := k
  exact ⟨c, d, y, i, m, rfl⟩

theorem environmentChanged_applyEvent (s : State) (e : EnvEvent) : EnvironmentChanged s (applyEvent s e) := by
  cases e <;> exact ⟨_, _, _, _, _, rfl⟩

theorem environmentChanged_foldl (events : List EnvEvent) :
    ∀ s : State, EnvironmentChanged s (events.foldl applyEvent s) := by
  induction events with
  | nil => exact fun s => ⟨_, _, _, _, _, rfl⟩
  | cons e _ ih => exact fun s => (environmentChanged_applyEvent s e).trans (ih _)

theorem environmentChanged_deliverInputs (s : State) : EnvironmentChanged s (deliverInputs s) := by
  unfold deliverInputs
  split
  · exact ⟨_, _, _, _, _, rfl⟩
  · rename_i events later _
    have h : EnvironmentChanged s { s with inputs := later } := ⟨_, _, _, _, _, rfl⟩
    exact h.trans (environmentChanged_foldl events _)

theorem environmentChanged_timerCheck (s : State) : EnvironmentChanged s (timerCheck s) := by
  unfold timerCheck
  split <;> exact ⟨_, _, _, _, _, rfl⟩

/-- What the start of a step can change: `Cause`, the timer's deadline, and what belongs to the environment. -/
theorem environmentChanged_beginStep (s : State) : EnvironmentChanged s (beginStep s) :=
  (environmentChanged_deliverInputs s).trans (environmentChanged_timerCheck _)

@[simp] theorem beginStep_status (s : State) : (beginStep s).cp0.status = s.cp0.status := by
  obtain ⟨_, _, _, _, _, h⟩ := environmentChanged_beginStep s
  rw [h]

@[simp] theorem mode_beginStep (s : State) : mode (beginStep s) = mode s := mode_congr (by simp)

/-! ### What never changes -/

theorem FixedSame.trans {u : State} (h : FixedSame s t) (k : FixedSame t u) : FixedSame s u := by
  simp_all [FixedSame]

theorem fixedSame_beginStep (s : State) : FixedSame s (beginStep s) := by
  obtain ⟨_, _, _, _, _, h⟩ := environmentChanged_beginStep s
  rw [h]
  exact ⟨rfl, rfl, rfl, rfl, rfl⟩

theorem fixedSame_retire (s : State) : FixedSame s (retire s) := by simp [FixedSame]

theorem fixedSame_raise (e : Exc) (s : State) : FixedSame s (raise e s) := by
  refine ⟨rfl, ?_, ?_, rfl, rfl⟩ <;> simp only [raise] <;> cases e <;> rfl

/-! ### The whole step -/

/-- All that a step can do when it completes: take an exception, or run the decoded instruction; then retire. -/
theorem step_next (h : step s = .next t) :
    (∃ e, t = retire (raise e (beginStep s))) ∨
    ∃ w i u, fetchWord (beginStep s) = .ok w ∧ decodeWord w = .instr i ∧ exec i (beginStep s) = .next u ∧
      t = retire u := by
  change runStep s = _ at h
  unfold runStep at h
  simp only at h
  split at h
  · exact .inl ⟨_, by simpa [retireResult] using h.symm⟩
  · unfold fetchAndExecute at h
    cases hf : fetchWord (beginStep s) with
    | raised e => exact .inl ⟨e, by simpa [hf, withAccess, retireResult] using h.symm⟩
    | fault f => simp [hf, withAccess, retireResult] at h
    | refused r => simp [hf, withAccess, retireResult] at h
    | ok w =>
      simp only [hf, withAccess, executeWord] at h
      cases hd : decodeWord w with
      | instr i =>
        simp only [hd] at h
        cases he : exec i (beginStep s) <;> simp [he, retireResult] at h
        exact .inr ⟨w, i, _, rfl, hd, he, h.symm⟩
      | truncated => exact .inl ⟨_, by simpa [hd, retireResult] using h.symm⟩
      | reserved p =>
        left
        simp only [hd] at h
        cases p <;> simp only [reservedEncoding, requireCp0, requireCp1] at h <;> (try split at h) <;>
          simp only [retireResult, Host.Outcome.next.injEq] at h <;> exact ⟨_, h.symm⟩

end Sys2Proof.Machine
end

