-- ==== Sys2Proof/Tests/Slice0.lean ====
section
/-! SUPPORT. Tests. Expected results are the worked examples of the spec (spec/95_test_vectors.md, named `V-...`, and
the examples of the rules) or hand calculation from them, never the model's own answers. The words of the decode tests are
written from the rows of spec/opcode_table.json. The last part shows, for every statement with hypotheses, a concrete
state that meets them. -/

namespace Sys2Proof.Tests

open Sys2Proof.Machine

set_option Elab.async false

/-! ### WellFormed refuses what no encoding stands for -/

/-- A shift amount has 5 bits, a condition number 3. -/
theorem test_wellFormed_refuses :
    Instr.wellFormed (.sll 1 2 32) = false ∧ Instr.wellFormed (.dsra32 1 2 32) = false ∧
    Instr.wellFormed (.bc1t 8 0) = false ∧ Instr.wellFormed (.movfS 1 2 8) = false ∧
    Instr.wellFormed (.cEqD 8 1 2) = false := by decide

/-- The largest shift amount and condition number are admitted. -/
theorem test_wellFormed_admits :
    Instr.wellFormed (.sll 1 2 31) = true ∧ Instr.wellFormed (.bc1t 7 0) = true ∧
    Instr.wellFormed (.cEqD 7 1 2) = true ∧ Instr.wellFormed (.sd 31 0xFFFF 31) = true := by decide

/-! ### Decoding: one word for every instruction, built from the table's fixed bits and operand fields -/

theorem test_decode_rows_1 :
    ∀ p ∈ ([
      (0x000DCCC0#32, .sll 0x19 0xd 0x13), (0x000DCCC2#32, .srl 0x19 0xd 0x13),
      (0x000DCCC3#32, .sra 0x19 0xd 0x13), (0x02CDC804#32, .sllv 0x19 0xd 0x16),
      (0x02CDC806#32, .srlv 0x19 0xd 0x16), (0x02CDC807#32, .srav 0x19 0xd 0x16), (0x02C00008#32, .jr 0x16),
      (0x02C0C809#32, .jalr 0x19 0x16), (0x02970F8C#32, .syscall 0xa5c3e), (0x02970F8D#32, .brk 0xa5c3e),
      (0x000002CF#32, .sync 0xb), (0x0000C810#32, .mfhi 0x19), (0x02C00011#32, .mthi 0x16),
      (0x0000C812#32, .mflo 0x19), (0x02C00013#32, .mtlo 0x16), (0x02CDC814#32, .dsllv 0x19 0xd 0x16),
      (0x02CDC816#32, .dsrlv 0x19 0xd 0x16), (0x02CDC817#32, .dsrav 0x19 0xd 0x16), (0x02CD0018#32, .mult 0x16 0xd)] :
        List (Word32 × Instr)),
      decodeWord p.1 = .instr p.2 ∧ encode p.2 = p.1 := by decide +kernel

theorem test_decode_rows_2 :
    ∀ p ∈ ([
      (0x02CD0019#32, .multu 0x16 0xd), (0x02CD001A#32, .div 0x16 0xd), (0x02CD001B#32, .divu 0x16 0xd),
      (0x02CD001C#32, .dmult 0x16 0xd), (0x02CD001D#32, .dmultu 0x16 0xd), (0x02CD001E#32, .ddiv 0x16 0xd),
      (0x02CD001F#32, .ddivu 0x16 0xd), (0x02CDC820#32, .add 0x19 0x16 0xd), (0x02CDC821#32, .addu 0x19 0x16 0xd),
      (0x02CDC822#32, .sub 0x19 0x16 0xd), (0x02CDC823#32, .subu 0x19 0x16 0xd),
      (0x02CDC824#32, .and 0x19 0x16 0xd), (0x02CDC825#32, .or 0x19 0x16 0xd), (0x02CDC826#32, .xor 0x19 0x16 0xd),
      (0x02CDC827#32, .nor 0x19 0x16 0xd), (0x02CDC82A#32, .slt 0x19 0x16 0xd),
      (0x02CDC82B#32, .sltu 0x19 0x16 0xd), (0x02CDC82C#32, .dadd 0x19 0x16 0xd),
      (0x02CDC82D#32, .daddu 0x19 0x16 0xd)] :
        List (Word32 × Instr)),
      decodeWord p.1 = .instr p.2 ∧ encode p.2 = p.1 := by decide +kernel

theorem test_decode_rows_3 :
    ∀ p ∈ ([
      (0x02CDC82E#32, .dsub 0x19 0x16 0xd), (0x02CDC82F#32, .dsubu 0x19 0x16 0xd),
      (0x02CD0FB0#32, .tge 0x16 0xd 0x3e), (0x02CD0FB1#32, .tgeu 0x16 0xd 0x3e),
      (0x02CD0FB2#32, .tlt 0x16 0xd 0x3e), (0x02CD0FB3#32, .tltu 0x16 0xd 0x3e),
      (0x02CD0FB4#32, .teq 0x16 0xd 0x3e), (0x02CD0FB6#32, .tne 0x16 0xd 0x3e),
      (0x000DCCF8#32, .dsll 0x19 0xd 0x13), (0x000DCCFA#32, .dsrl 0x19 0xd 0x13),
      (0x000DCCFB#32, .dsra 0x19 0xd 0x13), (0x000DCCFC#32, .dsll32 0x19 0xd 0x13),
      (0x000DCCFE#32, .dsrl32 0x19 0xd 0x13), (0x000DCCFF#32, .dsra32 0x19 0xd 0x13),
      (0x06C08421#32, .bltz 0x16 0x8421), (0x06C18421#32, .bgez 0x16 0x8421), (0x06C28421#32, .bltzl 0x16 0x8421),
      (0x06C38421#32, .bgezl 0x16 0x8421), (0x06C89ABC#32, .tgei 0x16 0x9abc)] :
        List (Word32 × Instr)),
      decodeWord p.1 = .instr p.2 ∧ encode p.2 = p.1 := by decide +kernel

theorem test_decode_rows_4 :
    ∀ p ∈ ([
      (0x06C99ABC#32, .tgeiu 0x16 0x9abc), (0x06CA9ABC#32, .tlti 0x16 0x9abc), (0x06CB9ABC#32, .tltiu 0x16 0x9abc),
      (0x06CC9ABC#32, .teqi 0x16 0x9abc), (0x06CE9ABC#32, .tnei 0x16 0x9abc), (0x06D08421#32, .bltzal 0x16 0x8421),
      (0x06D18421#32, .bgezal 0x16 0x8421), (0x06D28421#32, .bltzall 0x16 0x8421),
      (0x06D38421#32, .bgezall 0x16 0x8421), (0x0A345678#32, .j 0x2345678), (0x0E345678#32, .jal 0x2345678),
      (0x12CD8421#32, .beq 0x16 0xd 0x8421), (0x16CD8421#32, .bne 0x16 0xd 0x8421),
      (0x1AC08421#32, .blez 0x16 0x8421), (0x1EC08421#32, .bgtz 0x16 0x8421),
      (0x22CD9ABC#32, .addi 0xd 0x16 0x9abc), (0x26CD9ABC#32, .addiu 0xd 0x16 0x9abc),
      (0x2ACD9ABC#32, .slti 0xd 0x16 0x9abc), (0x2ECD9ABC#32, .sltiu 0xd 0x16 0x9abc)] :
        List (Word32 × Instr)),
      decodeWord p.1 = .instr p.2 ∧ encode p.2 = p.1 := by decide +kernel

theorem test_decode_rows_5 :
    ∀ p ∈ ([
      (0x32CD9ABC#32, .andi 0xd 0x16 0x9abc), (0x36CD9ABC#32, .ori 0xd 0x16 0x9abc),
      (0x3ACD9ABC#32, .xori 0xd 0x16 0x9abc), (0x3C0D9ABC#32, .lui 0xd 0x9abc), (0x49234567#32, .cop2 0x1234567),
      (0x52CD8421#32, .beql 0x16 0xd 0x8421), (0x56CD8421#32, .bnel 0x16 0xd 0x8421),
      (0x5AC08421#32, .blezl 0x16 0x8421), (0x5EC08421#32, .bgtzl 0x16 0x8421),
      (0x62CD9ABC#32, .daddi 0xd 0x16 0x9abc), (0x66CD9ABC#32, .daddiu 0xd 0x16 0x9abc),
      (0x6ACD8421#32, .ldl 0xd 0x8421 0x16), (0x6ECD8421#32, .ldr 0xd 0x8421 0x16),
      (0x82CD8421#32, .lb 0xd 0x8421 0x16), (0x86CD8421#32, .lh 0xd 0x8421 0x16),
      (0x8ACD8421#32, .lwl 0xd 0x8421 0x16), (0x8ECD8421#32, .lw 0xd 0x8421 0x16),
      (0x92CD8421#32, .lbu 0xd 0x8421 0x16), (0x96CD8421#32, .lhu 0xd 0x8421 0x16)] :
        List (Word32 × Instr)),
      decodeWord p.1 = .instr p.2 ∧ encode p.2 = p.1 := by decide +kernel

theorem test_decode_rows_6 :
    ∀ p ∈ ([
      (0x9ACD8421#32, .lwr 0xd 0x8421 0x16), (0x9ECD8421#32, .lwu 0xd 0x8421 0x16),
      (0xA2CD8421#32, .sb 0xd 0x8421 0x16), (0xA6CD8421#32, .sh 0xd 0x8421 0x16),
      (0xAACD8421#32, .swl 0xd 0x8421 0x16), (0xAECD8421#32, .sw 0xd 0x8421 0x16),
      (0xB2CD8421#32, .sdl 0xd 0x8421 0x16), (0xB6CD8421#32, .sdr 0xd 0x8421 0x16),
      (0xBACD8421#32, .swr 0xd 0x8421 0x16), (0xBED58421#32, .cache 0x15 0x8421 0x16),
      (0xC2CD8421#32, .ll 0xd 0x8421 0x16), (0xC6CD8421#32, .lwc1 0xd 0x8421 0x16),
      (0xCACD8421#32, .lwc2 0xd 0x8421 0x16), (0xD2CD8421#32, .lld 0xd 0x8421 0x16),
      (0xD6CD8421#32, .ldc1 0xd 0x8421 0x16), (0xDACD8421#32, .ldc2 0xd 0x8421 0x16),
      (0xDECD8421#32, .ld 0xd 0x8421 0x16), (0xE2CD8421#32, .sc 0xd 0x8421 0x16),
      (0xE6CD8421#32, .swc1 0xd 0x8421 0x16)] :
        List (Word32 × Instr)),
      decodeWord p.1 = .instr p.2 ∧ encode p.2 = p.1 := by decide +kernel

theorem test_decode_rows_7 :
    ∀ p ∈ ([
      (0xEACD8421#32, .swc2 0xd 0x8421 0x16), (0xF2CD8421#32, .scd 0xd 0x8421 0x16),
      (0xF6CD8421#32, .sdc1 0xd 0x8421 0x16), (0xFACD8421#32, .sdc2 0xd 0x8421 0x16),
      (0xFECD8421#32, .sd 0xd 0x8421 0x16), (0x400DC800#32, .mfc0 0xd 0x19), (0x402DC800#32, .dmfc0 0xd 0x19),
      (0x404DC800#32, .cfc0 0xd 0x19), (0x408DC800#32, .mtc0 0xd 0x19), (0x40ADC800#32, .dmtc0 0xd 0x19),
      (0x40CDC800#32, .ctc0 0xd 0x19), (0x41008421#32, .bc0f 0x8421), (0x41018421#32, .bc0t 0x8421),
      (0x42000001#32, .tlbr), (0x42000002#32, .tlbwi), (0x42000006#32, .tlbwr), (0x42000008#32, .tlbp),
      (0x42000018#32, .eret), (0x440DC800#32, .mfc1 0xd 0x19)] :
        List (Word32 × Instr)),
      decodeWord p.1 = .instr p.2 ∧ encode p.2 = p.1 := by decide +kernel

theorem test_decode_rows_8 :
    ∀ p ∈ ([
      (0x442DC800#32, .dmfc1 0xd 0x19), (0x444DC800#32, .cfc1 0xd 0x19), (0x448DC800#32, .mtc1 0xd 0x19),
      (0x44ADC800#32, .dmtc1 0xd 0x19), (0x44CDC800#32, .ctc1 0xd 0x19), (0x45148421#32, .bc1f 0x5 0x8421),
      (0x45158421#32, .bc1t 0x5 0x8421), (0x45168421#32, .bc1fl 0x5 0x8421), (0x45178421#32, .bc1tl 0x5 0x8421),
      (0x460DC9C0#32, .addS 0x7 0x19 0xd), (0x460DC9C1#32, .subS 0x7 0x19 0xd),
      (0x460DC9C2#32, .mulS 0x7 0x19 0xd), (0x460DC9C3#32, .divS 0x7 0x19 0xd), (0x4600C9C4#32, .sqrtS 0x7 0x19),
      (0x4600C9C5#32, .absS 0x7 0x19), (0x4600C9C6#32, .movS 0x7 0x19), (0x4600C9C7#32, .negS 0x7 0x19),
      (0x4600C9C8#32, .roundLS 0x7 0x19), (0x4600C9C9#32, .truncLS 0x7 0x19)] :
        List (Word32 × Instr)),
      decodeWord p.1 = .instr p.2 ∧ encode p.2 = p.1 := by decide +kernel

theorem test_decode_rows_9 :
    ∀ p ∈ ([
      (0x4600C9CA#32, .ceilLS 0x7 0x19), (0x4600C9CB#32, .floorLS 0x7 0x19), (0x4600C9CC#32, .roundWS 0x7 0x19),
      (0x4600C9CD#32, .truncWS 0x7 0x19), (0x4600C9CE#32, .ceilWS 0x7 0x19), (0x4600C9CF#32, .floorWS 0x7 0x19),
      (0x4614C9D1#32, .movfS 0x7 0x19 0x5), (0x4615C9D1#32, .movtS 0x7 0x19 0x5),
      (0x460DC9D2#32, .movzS 0x7 0x19 0xd), (0x460DC9D3#32, .movnS 0x7 0x19 0xd),
      (0x4600C9D5#32, .recipS 0x7 0x19), (0x4600C9D6#32, .rsqrtS 0x7 0x19), (0x462DC9C0#32, .addD 0x7 0x19 0xd),
      (0x462DC9C1#32, .subD 0x7 0x19 0xd), (0x462DC9C2#32, .mulD 0x7 0x19 0xd),
      (0x462DC9C3#32, .divD 0x7 0x19 0xd), (0x4620C9C4#32, .sqrtD 0x7 0x19), (0x4620C9C5#32, .absD 0x7 0x19),
      (0x4620C9C6#32, .movD 0x7 0x19)] :
        List (Word32 × Instr)),
      decodeWord p.1 = .instr p.2 ∧ encode p.2 = p.1 := by decide +kernel

theorem test_decode_rows_10 :
    ∀ p ∈ ([
      (0x4620C9C7#32, .negD 0x7 0x19), (0x4620C9C8#32, .roundLD 0x7 0x19), (0x4620C9C9#32, .truncLD 0x7 0x19),
      (0x4620C9CA#32, .ceilLD 0x7 0x19), (0x4620C9CB#32, .floorLD 0x7 0x19), (0x4620C9CC#32, .roundWD 0x7 0x19),
      (0x4620C9CD#32, .truncWD 0x7 0x19), (0x4620C9CE#32, .ceilWD 0x7 0x19), (0x4620C9CF#32, .floorWD 0x7 0x19),
      (0x4634C9D1#32, .movfD 0x7 0x19 0x5), (0x4635C9D1#32, .movtD 0x7 0x19 0x5),
      (0x462DC9D2#32, .movzD 0x7 0x19 0xd), (0x462DC9D3#32, .movnD 0x7 0x19 0xd),
      (0x4620C9D5#32, .recipD 0x7 0x19), (0x4620C9D6#32, .rsqrtD 0x7 0x19), (0x4620C9E0#32, .cvtSD 0x7 0x19),
      (0x4680C9E0#32, .cvtSW 0x7 0x19), (0x46A0C9E0#32, .cvtSL 0x7 0x19), (0x4600C9E1#32, .cvtDS 0x7 0x19)] :
        List (Word32 × Instr)),
      decodeWord p.1 = .instr p.2 ∧ encode p.2 = p.1 := by decide +kernel

theorem test_decode_rows_11 :
    ∀ p ∈ ([
      (0x4680C9E1#32, .cvtDW 0x7 0x19), (0x46A0C9E1#32, .cvtDL 0x7 0x19), (0x4600C9E4#32, .cvtWS 0x7 0x19),
      (0x4620C9E4#32, .cvtWD 0x7 0x19), (0x4600C9E5#32, .cvtLS 0x7 0x19), (0x4620C9E5#32, .cvtLD 0x7 0x19),
      (0x460DCD30#32, .cFS 0x5 0x19 0xd), (0x460DCD31#32, .cUnS 0x5 0x19 0xd), (0x460DCD32#32, .cEqS 0x5 0x19 0xd),
      (0x460DCD33#32, .cUeqS 0x5 0x19 0xd), (0x460DCD34#32, .cOltS 0x5 0x19 0xd),
      (0x460DCD35#32, .cUltS 0x5 0x19 0xd), (0x460DCD36#32, .cOleS 0x5 0x19 0xd),
      (0x460DCD37#32, .cUleS 0x5 0x19 0xd), (0x460DCD38#32, .cSfS 0x5 0x19 0xd),
      (0x460DCD39#32, .cNgleS 0x5 0x19 0xd), (0x460DCD3A#32, .cSeqS 0x5 0x19 0xd),
      (0x460DCD3B#32, .cNglS 0x5 0x19 0xd), (0x460DCD3C#32, .cLtS 0x5 0x19 0xd)] :
        List (Word32 × Instr)),
      decodeWord p.1 = .instr p.2 ∧ encode p.2 = p.1 := by decide +kernel

theorem test_decode_rows_12 :
    ∀ p ∈ ([
      (0x460DCD3D#32, .cNgeS 0x5 0x19 0xd), (0x460DCD3E#32, .cLeS 0x5 0x19 0xd),
      (0x460DCD3F#32, .cNgtS 0x5 0x19 0xd), (0x462DCD30#32, .cFD 0x5 0x19 0xd),
      (0x462DCD31#32, .cUnD 0x5 0x19 0xd), (0x462DCD32#32, .cEqD 0x5 0x19 0xd),
      (0x462DCD33#32, .cUeqD 0x5 0x19 0xd), (0x462DCD34#32, .cOltD 0x5 0x19 0xd),
      (0x462DCD35#32, .cUltD 0x5 0x19 0xd), (0x462DCD36#32, .cOleD 0x5 0x19 0xd),
      (0x462DCD37#32, .cUleD 0x5 0x19 0xd), (0x462DCD38#32, .cSfD 0x5 0x19 0xd),
      (0x462DCD39#32, .cNgleD 0x5 0x19 0xd), (0x462DCD3A#32, .cSeqD 0x5 0x19 0xd),
      (0x462DCD3B#32, .cNglD 0x5 0x19 0xd), (0x462DCD3C#32, .cLtD 0x5 0x19 0xd),
      (0x462DCD3D#32, .cNgeD 0x5 0x19 0xd), (0x462DCD3E#32, .cLeD 0x5 0x19 0xd),
      (0x462DCD3F#32, .cNgtD 0x5 0x19 0xd)] :
        List (Word32 × Instr)),
      decodeWord p.1 = .instr p.2 ∧ encode p.2 = p.1 := by decide +kernel

/-- Words that the spec spells out (V-DEC, V-TR-13, V-TR-14, V-FP-18, V-C0-9): must-be-zero fields are ignored, and
reserved words are refused in their map. -/
theorem test_decode_spelled_words :
    decodeWord 0x00000000#32 = .instr (.sll 0 0 0) ∧ decodeWord 0x03E00008#32 = .instr (.jr 31) ∧
    decodeWord 0x03E0F808#32 = .instr (.jr 31) ∧ decodeWord 0x42000018#32 = .instr .eret ∧
    decodeWord 0x42000019#32 = .reserved .cop0 ∧ decodeWord 0x44600000#32 = .reserved .cop1 ∧
    decodeWord 0x00000001#32 = .reserved .special ∧ decodeWord 0x0000000A#32 = .reserved .special ∧
    decodeWord 0x0000000B#32 = .reserved .special ∧ decodeWord 0xCC000000#32 = .reserved .primary ∧
    decodeWord 0x70000000#32 = .reserved .primary ∧ decodeWord 0x0000003D#32 = .reserved .special ∧
    decodeWord 0x041F0000#32 = .reserved .regimm ∧ decodeWord 0x4C000000#32 = .reserved .primary ∧
    decodeWord 0xFFFFFFFF#32 = .instr (.sd 31 0xFFFF 31) ∧ decodeWord 0x460000A0#32 = .reserved .cop1 ∧
    decodeWord 0x462000A1#32 = .reserved .cop1 ∧ decodeWord 0x46800000#32 = .reserved .cop1 ∧
    decodeWord 0x41020002#32 = .reserved .cop0 := by decide +kernel

/-- The host's numbering of a table word. -/
theorem test_decodeTableWord : decodeTableWord 32 0x00221821 = some (.addu 3 1 2) ∧
    decodeTableWord 32 0x70000000 = none := by decide +kernel

/-- The first step from reset runs the placed instruction (R540; `ORI $2,$0,5` of program P1). -/
theorem test_step_from_reset :
    (match step (State.reset.withFetchWord 32 0x34020005) with
      | .next t => decide (readGpr 2 t = 5 ∧ t.pc = 0xFFFFFFFFBFC00004#64 ∧ t.cycles = 1)
      | _ => false) = true := by decide +kernel

/-! ### Helpers: a kernel-mode state with the floating-point unit usable -/

/-- Kernel mode, 32-bit addressing, `CU1` set, `BEV` clear, at an address of the unmapped window. -/
def kernelState : State :=
  { State.reset with
    pc := 0xFFFFFFFF80001000#64
    cp0 := { State.reset.cp0 with status := 0x20000000#32 } }

/-- The state with general registers written. -/
def withRegs (xs : List (Reg × Word)) (s : State) : State := xs.foldl (fun t p => writeGpr p.1 p.2 t) s

/-- The state with floating-point cells written. -/
def withCells (xs : List (Fin 32 × Word)) (s : State) : State :=
  xs.foldl (fun t p => { t with fpr := t.fpr.set p.1.val p.2 p.1.isLt }) s

/-- The state with Status replaced. -/
def withStatus (v : Word32) (s : State) : State := { s with cp0 := { s.cp0 with status := v } }

/-- The state with `80 81 82 83 84 85 86 87` at physical 0x2000 (the memory of the load vectors). -/
def withBytes (s : State) : State :=
  { s with mem := [(0x2000, 0x80), (0x2001, 0x81), (0x2002, 0x82), (0x2003, 0x83), (0x2004, 0x84), (0x2005, 0x85),
                   (0x2006, 0x86), (0x2007, 0x87)] }

/-- The state with the rounding mode in `FCSR.RM` (R391). -/
def withRounding (rm : Word32) (s : State) : State := { s with ccr1 := s.ccr1.set 31 rm }

/-- The state after executing a word; a stop shows as the program counter 0. -/
def run (w : Word32) (s : State) : State :=
  match executeWord w s with
  | .next t => t
  | _ => { s with pc := 0 }

/-- `Cause.ExcCode` of the exception that executing a word takes. -/
def codeAfter (w : Word32) (s : State) : BitVec 5 := (run w s).cp0.cause.extractLsb' 2 5

/-- The address of the load vectors. -/
def addrA : Word := 0xFFFFFFFF80002000#64

/-- A word run on `x1`, `x2` leaves this value in a general register. -/
def gprCase (w : Word32) (x1 x2 : Word) (rd : Reg) (v : Word) : Bool :=
  decide (readGpr rd (run w (withRegs [(1, x1), (2, x2)] kernelState)) = v)

/-- A word run on `x1`, `x2` leaves these values in `lo` and `hi`. -/
def hiLoCase (w : Word32) (x1 x2 lo hi : Word) : Bool :=
  let t := run w (withRegs [(1, x1), (2, x2)] kernelState)
  decide (t.lo = lo) && decide (t.hi = hi)

/-- A word run on `x1`, `x2` (and `x3 = 77`) raises Overflow and keeps `x3`. -/
def overflowCase (w : Word32) (x1 x2 : Word) : Bool :=
  let t := run w (withRegs [(1, x1), (2, x2), (3, 77)] kernelState)
  decide (t.cp0.cause = 0x30#32) && decide (readGpr 3 t = 77) && decide (t.pc = 0xFFFFFFFF80000180#64)

/-- A jump at `pc` with `x5` goes to a target and links a register. -/
def jumpCase (w : Word32) (pc x5 target : Word) (rd : Reg) (link : Word) : Bool :=
  let t := run w { withRegs [(5, x5)] kernelState with pc := pc }
  decide (t.branchState = .branch) && decide (t.branchTarget = target) && decide (readGpr rd t = link)

/-- A branch at 0x1000 on `x1`, `x2` is taken to a target. -/
def takenCase (w : Word32) (x1 x2 target : Word) : Bool :=
  let t := run w { withRegs [(1, x1), (2, x2)] kernelState with pc := 0x1000 }
  decide (t.branchState = .branch) && decide (t.branchTarget = target)

/-- A branch on `x1`, `x2` is not taken, and nullifies its slot or not. -/
def notTakenCase (w : Word32) (x1 x2 : Word) (nullified : Bool) : Bool :=
  let t := run w (withRegs [(1, x1), (2, x2)] kernelState)
  decide (t.branchState = if nullified then .nullify else .none) && decide (t.pc = kernelState.pc)

/-- A conditional trap on `x1`, `x2` traps (code 13) or does nothing. -/
def trapCase (w : Word32) (x1 x2 : Word) (traps : Bool) : Bool :=
  decide (codeAfter w (withRegs [(1, x1), (2, x2)] kernelState) = if traps then 13 else 0)

/-- A load at `A` makes `x2` from its old value. -/
def loadCase (w : Word32) (old new : Word) : Bool :=
  decide (readGpr 2 (run w (withRegs [(4, addrA), (2, old)] (withBytes kernelState))) = new)

/-- A store of `x2` at `A` leaves the eight bytes spelling a number. -/
def storeCase (w : Word32) (x2 : Word) (bytes : Nat) : Bool :=
  decide (memoryValue (run w (withRegs [(4, addrA), (2, x2)] (withBytes kernelState))) 0x2000 8 = bytes)

/-- A word takes an exception of this code and coprocessor number. -/
def faultCase (w : Word32) (status : Word32) (code : BitVec 5) (ce : BitVec 2) : Bool :=
  let t := run w (withStatus status kernelState)
  decide (t.cp0.cause.extractLsb' 2 5 = code) && decide (t.cp0.cause.extractLsb' 28 2 = ce)

/-- A misaligned access at `A` plus an offset takes an address error of this code, with memory kept. -/
def misalignedCase (w : Word32) (code : BitVec 5) (offset : Word) : Bool :=
  let t := run w (withRegs [(4, addrA)] (withBytes kernelState))
  decide (t.cp0.cause.extractLsb' 2 5 = code) && decide (t.cp0.badVAddr = addrA + offset) &&
    decide (t.mem = (withBytes kernelState).mem)

/-- A floating-point word, with cells 0 and 4 and `RM`, leaves this value in 32-bit register 2. -/
def fp32Case (w : Word32) (c0 c4 : Word) (rm v : Word32) : Bool :=
  decide (readFpr32 2 (run w (withRounding rm (withCells [(0, c0), (4, c4)] kernelState))) = v)

/-- The same for 64-bit register 2. -/
def fp64Case (w : Word32) (c0 c4 : Word) (rm : Word32) (v : Word) : Bool :=
  decide (readFpr64 2 (run w (withRounding rm (withCells [(0, c0), (4, c4)] kernelState))) = v)

/-- A conditional move leaves this value in cell 2. -/
def moveCase (w : Word32) (v : Word) : Bool :=
  decide ((run w { withRegs [(5, 0x100000000#64)] (withCells [(4, 7)] kernelState) with fcc := 1 }).fpr[2] = v)

/-! ### Integer instructions (V-ALU, V-MD, examples of R183 to R209) -/

/-- Arithmetic, compares and logic. Each row: word, `x1`, `x2`, destination, its value after. -/
theorem test_integer_results :
    [
      gprCase 0x00221821#32 0xFFFFFFFF#64 0x1#64 3 0x0#64,
      gprCase 0x00221821#32 0x123456787FFFFFFF#64 0x1#64 3 0xFFFFFFFF80000000#64,
      gprCase 0x00220820#32 0x5#64 0xFFFFFFFFFFFFFFFD#64 1 0x2#64,
      gprCase 0x00021823#32 0x0#64 0x1#64 3 0xFFFFFFFFFFFFFFFF#64, gprCase 0x00221822#32 0x7#64 0x5#64 3 0x2#64,
      gprCase 0x0022182C#32 0xFFFFFFFFFFFFFFFF#64 0x1#64 3 0x0#64,
      gprCase 0x0022182D#32 0x7FFFFFFFFFFFFFFF#64 0x1#64 3 0x8000000000000000#64,
      gprCase 0x0022182E#32 0x5#64 0xFFFFFFFFFFFFFFFD#64 3 0x8#64,
      gprCase 0x0022182F#32 0x8000000000000000#64 0x1#64 3 0x7FFFFFFFFFFFFFFF#64,
      gprCase 0x2422FFFF#32 0x7FFFFFFF#64 0x9#64 2 0x7FFFFFFE#64,
      gprCase 0x20220001#32 0x7FFFFFFE#64 0x9#64 2 0x7FFFFFFF#64,
      gprCase 0x64028000#32 0x0#64 0x9#64 2 0xFFFFFFFFFFFF8000#64,
      gprCase 0x60220001#32 0xFFFFFFFFFFFFFFFF#64 0x9#64 2 0x0#64,
      gprCase 0x0022182A#32 0xFFFFFFFFFFFFFFFF#64 0x1#64 3 0x1#64,
      gprCase 0x0022182B#32 0xFFFFFFFFFFFFFFFF#64 0x1#64 3 0x0#64, gprCase 0x28228000#32 0x5#64 0x9#64 2 0x0#64,
      gprCase 0x2C228000#32 0x5#64 0x9#64 2 0x1#64,
      gprCase 0x00221827#32 0xFF#64 0xFF00#64 3 0xFFFFFFFFFFFF0000#64,
      gprCase 0x00221824#32 0xF0F0#64 0xFF00#64 3 0xF000#64, gprCase 0x00221825#32 0xF0F0#64 0xFF00#64 3 0xFFF0#64,
      gprCase 0x00221826#32 0xF0F0#64 0xFF00#64 3 0xFF0#64,
      gprCase 0x3022FFFF#32 0xFFFFFFFFFFFFFFFF#64 0x9#64 2 0xFFFF#64,
      gprCase 0x34228000#32 0x8000000000000000#64 0x9#64 2 0x8000000000008000#64,
      gprCase 0x3822FFFF#32 0xFFFFFFFFFFFFFFFF#64 0x9#64 2 0xFFFFFFFFFFFF0000#64,
      gprCase 0x3C028000#32 0x0#64 0x9#64 2 0xFFFFFFFF80000000#64].all id = true := by
  decide +kernel

/-- Shifts. Each row: word, `x1`, `x2`, destination, its value after. -/
theorem test_shift_results :
    [
      gprCase 0x000117C0#32 0x1#64 0x0#64 2 0xFFFFFFFF80000000#64,
      gprCase 0x000117C2#32 0xFFFFFFFF80000000#64 0x0#64 2 0x1#64,
      gprCase 0x000117C3#32 0xFFFFFFFF80000000#64 0x0#64 2 0xFFFFFFFFFFFFFFFF#64,
      gprCase 0x00011002#32 0x80000000#64 0x0#64 2 0xFFFFFFFF80000000#64,
      gprCase 0x00411804#32 0x1#64 0x21#64 3 0x2#64, gprCase 0x00411806#32 0x80000000#64 0x1F#64 3 0x1#64,
      gprCase 0x00411807#32 0x80000000#64 0x1F#64 3 0xFFFFFFFFFFFFFFFF#64,
      gprCase 0x000117F8#32 0x3#64 0x0#64 2 0x180000000#64,
      gprCase 0x000117FA#32 0x8000000000000000#64 0x0#64 2 0x100000000#64,
      gprCase 0x000117FB#32 0x8000000000000000#64 0x0#64 2 0xFFFFFFFF00000000#64,
      gprCase 0x000117FC#32 0x1#64 0x0#64 2 0x8000000000000000#64,
      gprCase 0x000117FF#32 0x8000000000000000#64 0x0#64 2 0xFFFFFFFFFFFFFFFF#64,
      gprCase 0x000117FE#32 0x8000000000000000#64 0x0#64 2 0x1#64, gprCase 0x00411814#32 0x1#64 0x40#64 3 0x1#64,
      gprCase 0x00411816#32 0x8000000000000000#64 0x3F#64 3 0x1#64,
      gprCase 0x00411817#32 0x8000000000000000#64 0x3F#64 3 0xFFFFFFFFFFFFFFFF#64].all id = true := by
  decide +kernel

/-- Overflow (code 12) with the destination kept, whatever the destination (V-ALU-3, 4, 6, 7, 9, 12, 14; T7). -/
theorem test_overflow :
    [overflowCase 0x00221820#32 0xFFFFFFFF80000000#64 0xFFFFFFFFFFFFFFFF#64,
      overflowCase 0x00220020#32 0x7FFFFFFF#64 1#64, overflowCase 0x00221822#32 0#64 0xFFFFFFFF80000000#64,
      overflowCase 0x0022182C#32 0x7FFFFFFFFFFFFFFF#64 1#64,
      overflowCase 0x0022182E#32 0x8000000000000000#64 1#64, overflowCase 0x20230001#32 0x7FFFFFFF#64 0#64,
      overflowCase 0x60230001#32 0x7FFFFFFFFFFFFFFF#64 0#64].all id = true := by
  decide +kernel

/-- With `OVERFLOW_TRAPS` off, the same sum wraps (V-ALU-3). -/
theorem test_overflow_traps_off :
    readGpr 3 (run 0x00221820#32 { withRegs [(1, 0xFFFFFFFF80000000#64), (2, 0xFFFFFFFFFFFFFFFF#64)] kernelState with
      cfg := { Config.default with overflowTraps := false } }) = 0x7FFFFFFF#64 := by decide +kernel

/-- Register 0 keeps reading 0 (T1). -/
theorem test_register_zero : readGpr 0 (run 0x3400FFFF#32 kernelState) = 0 := by decide +kernel

/-- Products and quotients (V-MD-1 to V-MD-11, T9). Each row: word, `x1`, `x2`, `lo`, `hi`. -/
theorem test_products_and_quotients :
    [
      hiLoCase 0x00220018#32 0x7FFFFFFF#64 0x7FFFFFFF#64 0x1#64 0x3FFFFFFF#64,
      hiLoCase 0x00220018#32 0xFFFFFFFFFFFFFFFE#64 0x3#64 0xFFFFFFFFFFFFFFFA#64 0xFFFFFFFFFFFFFFFF#64,
      hiLoCase 0x00220019#32 0xFFFFFFFF80000000#64 0x2#64 0x0#64 0x1#64,
      hiLoCase 0x0022001C#32 0x8000000000000000#64 0x2#64 0x0#64 0xFFFFFFFFFFFFFFFF#64,
      hiLoCase 0x0022001D#32 0x8000000000000000#64 0x8000000000000000#64 0x0#64 0x4000000000000000#64,
      hiLoCase 0x0022001D#32 0xFFFFFFFFFFFFFFFF#64 0x2#64 0xFFFFFFFFFFFFFFFE#64 0x1#64,
      hiLoCase 0x0022001A#32 0xFFFFFFFF80000001#64 0x7#64 0xFFFFFFFFEDB6DB6E#64 0xFFFFFFFFFFFFFFFF#64,
      hiLoCase 0x0022001A#32 0xFFFFFFFFFFFFFFF9#64 0xFFFFFFFFFFFFFFFE#64 0x3#64 0xFFFFFFFFFFFFFFFF#64,
      hiLoCase 0x0022001A#32 0xFFFFFFFF80000000#64 0xFFFFFFFFFFFFFFFF#64 0xFFFFFFFF80000000#64 0x0#64,
      hiLoCase 0x0022001B#32 0xFFFFFFFF80000000#64 0x3#64 0x2AAAAAAA#64 0x2#64,
      hiLoCase 0x0022001E#32 0x8000000000000000#64 0x3#64 0xD555555555555556#64 0xFFFFFFFFFFFFFFFE#64,
      hiLoCase 0x0022001F#32 0x8000000000000000#64 0x3#64 0x2AAAAAAAAAAAAAAA#64 0x2#64].all id = true := by
  decide +kernel

/-- Division by zero completes and changes nothing but `hi` and `lo` (V-MD-8). -/
theorem test_division_by_zero :
    [gprCase 0x0022001A#32 5 0 1 5, gprCase 0x0022001B#32 5 0 1 5, gprCase 0x0022001E#32 5 0 1 5,
      gprCase 0x0022001F#32 5 0 1 5].all id = true := by
  decide +kernel

/-- The moves of `hi` and `lo` (V-MD-12, V-MD-13). -/
theorem test_hi_lo_moves :
    (run 0x00200011#32 (withRegs [(1, 0x1234)] kernelState)).hi = 0x1234 ∧
    (run 0x00200013#32 (withRegs [(1, 0x5678)] kernelState)).lo = 0x5678 ∧
    readGpr 3 (run 0x00001810#32 { kernelState with hi := 0x1234 }) = 0x1234 ∧
    readGpr 3 (run 0x00001812#32 { kernelState with lo := 0x5678 }) = 0x5678 := by decide +kernel

/-! ### Control transfer (V-BR, V-FM-9 to V-FM-11, V-C0-9) -/

/-- Jumps: word, pc, `x5`, target, linked register, link. -/
theorem test_jumps :
    [jumpCase 0x08000040#32 0xFFFFFFFF8FFFFFFC#64 0#64 0xFFFFFFFF90000100#64 0 0#64,
      jumpCase 0x0C000010#32 0xFFFFFFFF80000000#64 0#64 0xFFFFFFFF80000040#64 31 0xFFFFFFFF80000008#64,
      jumpCase 0x00A02809#32 0x1000#64 0x2000#64 0x2000#64 5 0x1008#64,
      jumpCase 0x00A00008#32 0x1000#64 0xFFFFFFFF80000002#64 0xFFFFFFFF80000002#64 0 0#64].all id = true := by
  decide +kernel

/-- Branches taken: word, `x1`, `x2`, target from pc 0x1000. -/
theorem test_branches_taken :
    [takenCase 0x10007FFF#32 0#64 0#64 0x21000#64, takenCase 0x14220003#32 1#64 2#64 0x1010#64,
      takenCase 0x18200001#32 0x8000000000000000#64 0#64 0x1008#64,
      takenCase 0x1C200001#32 1#64 0#64 0x1008#64,
      takenCase 0x0420FFFF#32 0xFFFFFFFFFFFFFFFF#64 0#64 0x1000#64,
      takenCase 0x04210001#32 0#64 0#64 0x1008#64, takenCase 0x50220003#32 4#64 4#64 0x1010#64,
      takenCase 0x54220003#32 4#64 5#64 0x1010#64, takenCase 0x58200001#32 0#64 0#64 0x1008#64,
      takenCase 0x5C200001#32 1#64 0#64 0x1008#64,
      takenCase 0x04220001#32 0xFFFFFFFFFFFFFFFF#64 0#64 0x1008#64,
      takenCase 0x04230001#32 0#64 0#64 0x1008#64,
      takenCase 0x04300004#32 0xFFFFFFFFFFFFFFFF#64 0#64 0x1014#64,
      takenCase 0x04110004#32 0#64 0#64 0x1014#64,
      takenCase 0x04320004#32 0xFFFFFFFFFFFFFFFF#64 0#64 0x1014#64,
      takenCase 0x04330004#32 0#64 0#64 0x1014#64, takenCase 0x41000002#32 0#64 0#64 0x100C#64,
      takenCase 0x4504FFFF#32 0#64 0#64 0x1000#64, takenCase 0x45020003#32 0#64 0#64 0x1010#64].all id = true := by
  decide +kernel

/-- Branches not taken: word, `x1`, `x2`, whether the slot is nullified. -/
theorem test_branches_not_taken :
    [notTakenCase 0x10220003#32 1#64 2#64 false, notTakenCase 0x14220003#32 4#64 4#64 false,
      notTakenCase 0x1C200001#32 0x8000000000000000#64 0#64 false, notTakenCase 0x18200001#32 1#64 0#64 false,
      notTakenCase 0x04200001#32 0#64 0#64 false, notTakenCase 0x04210001#32 0xFFFFFFFFFFFFFFFF#64 0#64 false,
      notTakenCase 0x50220003#32 1#64 2#64 true, notTakenCase 0x54220003#32 4#64 4#64 true,
      notTakenCase 0x58200001#32 1#64 0#64 true, notTakenCase 0x5C200001#32 0#64 0#64 true,
      notTakenCase 0x04220001#32 0#64 0#64 true, notTakenCase 0x04230001#32 0xFFFFFFFFFFFFFFFF#64 0#64 true,
      notTakenCase 0x04320004#32 0#64 0#64 true, notTakenCase 0x41010002#32 0#64 0#64 false,
      notTakenCase 0x45010003#32 0#64 0#64 false, notTakenCase 0x45030003#32 0#64 0#64 true].all id = true := by
  decide +kernel

/-- Linking branches write register 31 either way, from the old condition (V-BR-5 to V-BR-7); condition bit 0 set
(V-FM-9, V-FM-11). -/
theorem test_links_and_conditions :
    readGpr 31 (run 0x04320004#32 { kernelState with pc := 0x400 }) = 0x408 ∧
    (run 0x07F00004#32 { withRegs [(31, 0xFFFFFFFFFFFFFFFF#64)] kernelState with pc := 0x400 }).branchTarget = 0x414 ∧
    readGpr 31 (run 0x07F00004#32 { withRegs [(31, 0xFFFFFFFFFFFFFFFF#64)] kernelState with pc := 0x400 }) = 0x408 ∧
    (run 0x45010003#32 { kernelState with fcc := 1 }).branchState = .branch ∧
    (run 0x45000003#32 { kernelState with fcc := 1 }).branchState = .none ∧
    (run 0x45020003#32 { kernelState with fcc := 1 }).branchState = .nullify ∧
    (run 0x45030003#32 { kernelState with fcc := 1 }).branchState = .branch := by decide +kernel

/-! ### Traps and system instructions (V-TR, V-EX) -/

/-- Conditional traps: word, `x1`, `x2`, whether it traps (code 13). -/
theorem test_traps :
    [trapCase 0x00220034#32 5#64 5#64 true, trapCase 0x00220036#32 5#64 5#64 false,
      trapCase 0x00220030#32 0xFFFFFFFFFFFFFFFF#64 1#64 false,
      trapCase 0x00220031#32 0xFFFFFFFFFFFFFFFF#64 1#64 true,
      trapCase 0x00220032#32 0xFFFFFFFFFFFFFFFF#64 1#64 true,
      trapCase 0x00220033#32 0xFFFFFFFFFFFFFFFF#64 1#64 false, trapCase 0x0428FFFF#32 0#64 0#64 true,
      trapCase 0x0429FFFF#32 0#64 0#64 false, trapCase 0x042AFFFF#32 0#64 0#64 false,
      trapCase 0x042BFFFF#32 0#64 0#64 true, trapCase 0x042C0005#32 5#64 0#64 true,
      trapCase 0x042E0005#32 5#64 0#64 false, trapCase 0x00220036#32 5#64 6#64 true,
      trapCase 0x042E0005#32 6#64 0#64 true].all id = true := by
  decide +kernel

/-- Entry of `SYSCALL` (V-EX-1 to V-EX-3). -/
theorem test_syscall_entry :
    (let t := run 0x0000000C#32 (withStatus 0 kernelState)
     t.cp0.epc = kernelState.pc ∧ t.cp0.cause = 0x20#32 ∧ t.cp0.status = 2#32 ∧ t.pc = 0xFFFFFFFF80000180#64) ∧
    (run 0x0000000C#32 (withStatus 0x00400000#32 kernelState)).pc = 0xFFFFFFFFBFC00380#64 ∧
    (run 0x0000000C#32 (withStatus 2#32 kernelState)).cp0.epc = 0 := by decide +kernel

/-- `BREAK` (9), reserved words (10), coprocessor 2 (11, or 10 with `CU2`), `SYNC` and `CACHE` (V-TR-9 to V-TR-13). -/
theorem test_system_words :
    codeAfter 0x0000000D#32 kernelState = 9 ∧ codeAfter 0x0001000D#32 kernelState = 9 ∧
    codeAfter 0x70000000#32 kernelState = 10 ∧ codeAfter 0x041F0000#32 kernelState = 10 ∧
    [faultCase 0x48000000#32 0 11 2, faultCase 0xC8000000#32 0 11 2, faultCase 0xD8000000#32 0 11 2,
      faultCase 0xE8000000#32 0 11 2, faultCase 0xF8000000#32 0 11 2, faultCase 0x48000000#32 0x40000000 10 0,
      faultCase 0xC8000000#32 0x40000000 10 0].all id = true ∧
    run 0x0000000F#32 kernelState = kernelState ∧ run 0xBC000000#32 kernelState = kernelState ∧
    codeAfter 0xBC000000#32 (withStatus 0x10#32 kernelState) = 11 := by decide +kernel

/-- The floating-point unit unusable (V-FM-1), before sub-decoding (V-DEC-5). -/
theorem test_coprocessor_unusable :
    [faultCase 0x44020000#32 0 11 1, faultCase 0xC4810000#32 0 11 1, faultCase 0xD4820000#32 0 11 1,
      faultCase 0xE4800000#32 0 11 1, faultCase 0xF4800008#32 0 11 1, faultCase 0x44600000#32 0 11 1].all id =
      true := by decide +kernel

/-! ### Loads, stores, partial words, atomics (V-LS, V-PW, V-LLSC) -/

/-- Loads, `x4 = A`: word, `x2` before, `x2` after. -/
theorem test_loads :
    [loadCase 0x80820000#32 0#64 0xFFFFFFFFFFFFFF80#64, loadCase 0x90820003#32 0#64 0x83#64,
      loadCase 0x84820002#32 0#64 0xFFFFFFFFFFFF8283#64, loadCase 0x94820002#32 0#64 0x8283#64,
      loadCase 0x8C820004#32 0#64 0xFFFFFFFF84858687#64, loadCase 0x9C820004#32 0#64 0x84858687#64,
      loadCase 0xDC820000#32 0#64 0x8081828384858687#64,
      loadCase 0x88820001#32 0xAABBCCDD#64 0xFFFFFFFF818283DD#64,
      loadCase 0x98820001#32 0xAABBCCDD#64 0xFFFFFFFFAABB8081#64,
      loadCase 0x68820003#32 0xA1A2A3A4A5A6A7A8#64 0x8384858687A6A7A8#64,
      loadCase 0x6C820002#32 0xA1A2A3A4A5A6A7A8#64 0xA1A2A3A4A5808182#64].all id = true := by
  decide +kernel

/-- Little-endian (V-LS-14, V-PW-10), and `RE` in user mode, here by its shift alone (V-PW-11). -/
theorem test_byte_orders :
    (let s := { withRegs [(4, addrA), (2, 0xAABBCCDD#64)] (withBytes kernelState) with
        cfg := { Config.default with bigEndian := false } }
     readGpr 2 (run 0x8C820000#32 s) = 0xFFFFFFFF83828180#64 ∧
     readGpr 2 (run 0x84820000#32 s) = 0xFFFFFFFFFFFF8180#64 ∧
     readGpr 2 (run 0x88820001#32 s) = 0xFFFFFFFF8180CCDD#64) ∧
    leftShift (withStatus 0x02000010#32 kernelState) 1 3 = 16 := by decide +kernel

/-- Stores, `x4 = A`: word, `x2`, the eight bytes after, as one number. -/
theorem test_stores :
    [storeCase 0xA0820001#32 0x1234#64 0x8034828384858687,
      storeCase 0xA4820002#32 0xABCD1234#64 0x8081123484858687,
      storeCase 0xAC820000#32 0x1111222233334444#64 0x3333444484858687,
      storeCase 0xFC820000#32 0x1111222233334444#64 0x1111222233334444,
      storeCase 0xA8820001#32 0xAABBCCDD#64 0x80AABBCC84858687,
      storeCase 0xB8820001#32 0xAABBCCDD#64 0xCCDD828384858687,
      storeCase 0xB0820005#32 0xA1A2A3A4A5A6A7A8#64 0x8081828384A1A2A3,
      storeCase 0xB4820001#32 0xA1A2A3A4A5A6A7A8#64 0xA7A8828384858687].all id = true := by
  decide +kernel

/-- Misaligned accesses (V-LS-8, V-LS-9, V-LLSC-6, V-FM-13): code and BadVAddr. -/
theorem test_misaligned :
    [misalignedCase 0x8C820002#32 4 2#64, misalignedCase 0xFC820004#32 5 4#64,
      misalignedCase 0xE0830002#32 5 2#64, misalignedCase 0xD4820004#32 4 4#64].all id = true := by
  decide +kernel

/-- `LL` and `SC`, `LLD` and `SCD` (V-LLSC-1, V-LLSC-2, V-LLSC-4, V-LLSC-5). -/
theorem test_linked_pairs :
    (let s := run 0xC0820000#32 (withRegs [(4, addrA), (3, 9)] (withBytes kernelState))
     readGpr 3 (run 0xE0830000#32 s) = 1 ∧ memoryValue (run 0xE0830000#32 s) 0x2000 4 = 9 ∧
     readGpr 3 (run 0xE0830000#32 { s with mem := [(0x2003, 5)] }) = 0 ∧
     (run 0xE0830000#32 { s with mem := [(0x2003, 5)] }).mem = [(0x2003, 5)] ∧
     readGpr 3 (run 0xE0830000#32 (run 0x42000018#32 s)) = 0) ∧
    (let s := run 0xD0820000#32 (withRegs [(4, addrA), (3, 9)] (withBytes kernelState))
     readGpr 3 (run 0xF0830000#32 s) = 1 ∧ memoryValue (run 0xF0830000#32 s) 0x2000 8 = 9) := by decide +kernel

/-! ### System coprocessor and TLB (V-C0, V-TLB, V-SEG) -/

/-- The moves and their write masks (V-C0-2 to V-C0-8). -/
theorem test_system_registers :
    (run 0x40826000#32 (withRegs [(2, 0xFFFFFFFF00400004#64)] kernelState)).cp0.status = 0x00400004#32 ∧
    readGpr 3 (run 0x40036000#32 (withStatus 0x00400004#32 kernelState)) = 0x00400004#64 ∧
    (run 0x40826800#32 (withRegs [(2, 0xFFFFFFFF#64)] kernelState)).cp0.cause = 0x300#32 ∧
    (run 0x40820000#32 (withRegs [(2, 0xFFFFFFFF#64)] kernelState)).cp0.index = 0x8000003F#32 ∧
    (run 0x40824000#32 (withRegs [(2, 7)] kernelState)).cp0 = kernelState.cp0 ∧
    (run 0x40827800#32 (withRegs [(2, 7)] kernelState)).cp0 = kernelState.cp0 ∧
    (run 0x40820800#32 (withRegs [(2, 7)] kernelState)).cp0 = kernelState.cp0 ∧
    (run 0x40A25000#32 (withRegs [(2, 0xFFFFFFFFFFFFFFFF#64)] kernelState)).cp0.entryHi = 0xC00000FFFFFFE0FF#64 ∧
    (run 0x40827000#32 (withRegs [(2, 0x80000000#64)] kernelState)).cp0.epc = 0xFFFFFFFF80000000#64 ∧
    readGpr 2 (run 0x40027800#32 kernelState) = 0x400#64 ∧
    readGpr 2 (run 0x40024800#32 { kernelState with cycles := 7 }) = 3 ∧
    codeAfter 0x40026000#32 (withStatus 0x10#32 kernelState) = 11 := by decide +kernel

/-- The control registers of the system coprocessor read back (R456, R457), and `DMFC0` reads 64 bits (R453). -/
theorem test_system_control :
    readGpr 3 (run 0x40430800#32 (run 0x40C20800#32 (withRegs [(2, 0x180000001#64)] kernelState))) =
      0xFFFFFFFF80000001#64 ∧
    readGpr 3 (run 0x40237000#32 { kernelState with cp0 := { kernelState.cp0 with epc := 0x123456789#64 } }) =
      0x123456789#64 := by decide +kernel

/-- The registers of V-TLB-1 before the write. -/
def tlbState : State :=
  { kernelState with
    cp0 := { kernelState.cp0 with
      pageMask := 0x6000#32
      entryHi := 0x18005#64
      entryLo0 := 0x457#64
      entryLo1 := 0x496#64
      index := 7#32 } }

/-- Writing and reading an entry (V-TLB-1), the probe (V-TLB-2), an index above 47 (V-TLB-4). -/
theorem test_tlb_registers :
    (let t := run 0x42000002#32 tlbState
     let u := run 0x42000001#32 { t with cp0 := { kernelState.cp0 with index := 7#32 } }
     u.cp0.pageMask = 0x6000#32 ∧ u.cp0.entryHi = 0x18005#64 ∧ u.cp0.entryLo0 = 0x456#64 ∧
     u.cp0.entryLo1 = 0x496#64 ∧
     (run 0x42000008#32 t).cp0.index = 7#32 ∧
     (run 0x42000008#32 { t with cp0 := { t.cp0 with entryHi := 0x18006#64 } }).cp0.index = 0x80000000#32 ∧
     (run 0x42000008#32 { t with cp0 := { t.cp0 with entryHi := 0x1A005#64 } }).cp0.index = 7#32) ∧
    (let s := { tlbState with cp0 := { tlbState.cp0 with index := 48#32 } }
     run 0x42000002#32 s = s ∧ run 0x42000001#32 s = s) := by decide +kernel

/-- With 40 wired entries and no cycles elapsed the random write goes to entry 40, a default of R463 (V-TLB-3). -/
theorem test_tlb_random :
    (run 0x42000006#32 { tlbState with cp0 := { tlbState.cp0 with wired := 40#32 } }).tlb =
      tlbState.tlb.set 40 (entryImage tlbState.cp0) := by decide +kernel

/-- Translation through the entry of V-TLB-1 (V-TLB-5 to V-TLB-7). -/
theorem test_tlb_translation :
    (let t := run 0x42000002#32 tlbState
     translate t 0x19234#64 .read = .ok (0x11234, ⟨2, false⟩) ∧
     translate t 0x1C000#64 .write = .ok (0x10000, ⟨2, false⟩) ∧
     translate { t with cp0 := { t.cp0 with entryHi := 0x18006#64 } } 0x19234#64 .read =
       .raised (.tlbl 0x19234#64 (.refill false))) := by decide +kernel

/-- Segments (V-SEG-1 to V-SEG-6). -/
theorem test_segments :
    translate (withStatus 0x10#32 kernelState) 0xFFFFFFFF80000000#64 .read = .raised (.adel 0xFFFFFFFF80000000#64) ∧
    translate kernelState 0x80000000#64 .read = .raised (.adel 0x80000000#64) ∧
    translate (withStatus 0x80#32 kernelState) 0x0000010000000000#64 .read = .raised (.adel 0x0000010000000000#64) ∧
    translate (withStatus 0x80#32 kernelState) 0x9000000000001000#64 .read = .ok (0x1000, ⟨2, false⟩) ∧
    translate (withStatus 0x80#32 kernelState) 0x9000001000000000#64 .read = .raised (.adel 0x9000001000000000#64) ∧
    translate (withStatus 0x08#32 kernelState) 0xFFFFFFFFA0000000#64 .write = .raised (.ades 0xFFFFFFFFA0000000#64) ∧
    translate kernelState 0xFFFFFFFF80001234#64 .read = .ok (0x1234, ⟨0, false⟩) ∧
    translate kernelState 0xFFFFFFFFA0001234#64 .read = .ok (0x1234, ⟨2, false⟩) := by decide +kernel

/-! ### Interrupts, timer, return (V-INT, V-TMR, V-EX) -/

/-- An interrupt line raised between steps is taken at the next one (V-INT-1), and not with `IE` clear (V-INT-2). -/
theorem test_interrupt :
    (match step { withStatus 0x401#32 kernelState with inputs := [[.setLine 0 true]] } with
      | .next t => decide (t.pc = 0xFFFFFFFF80000180#64 ∧ t.cp0.epc = kernelState.pc ∧ t.cp0.cause = 0x400#32)
      | _ => false) = true ∧
    (match step { withStatus 0x400#32 kernelState with inputs := [[.setLine 0 true]] } with
      | .next t => decide (t.pc = kernelState.pc + 4 ∧ t.cp0.cause = 0x400#32)
      | _ => false) = true := by decide +kernel

/-- The schedule of V-TMR-1 and V-TMR-2, and the clearing of `IP7` (V-TMR-4). -/
theorem test_timer :
    (run 0x40825800#32 (withRegs [(2, 100)] { kernelState with cycles := 1 })).timerDeadline = 200 ∧
    (run 0x40825800#32 (withRegs [(2, 5)] { kernelState with cycles := 10 })).timerDeadline = 10 + 0x200000000#64 ∧
    (run 0x40825800#32 { kernelState with cp0 := { kernelState.cp0 with cause := 0x8000#32 } }).cp0.cause = 0 ∧
    (timerCheck { kernelState with compareArmed := true, timerDeadline := 200, cycles := 200 }).cp0.cause = 0x8000#32 ∧
    (timerCheck { kernelState with compareArmed := true, timerDeadline := 200, cycles := 199 }).cp0.cause = 0 ∧
    (run 0x40824800#32 (withRegs [(2, 9)] { kernelState with cycles := 11 })).countZeroTime = 0xFFFFFFFFFFFFFFF9#64 := by
  decide +kernel

/-- `ERET` (R470; program P5): the address, the level bit, and the flipped latches. -/
theorem test_exception_return :
    (let s := { withStatus 0x00408003#32 kernelState with llValue := 0x12345678#32, lldValue := 1 }
     let t := run 0x42000018#32 { s with cp0 := { s.cp0 with epc := 0x1000#64, errorEpc := 0x2000#64 } }
     t.pc = 0x1000#64 ∧ t.cp0.status = 0x00408001#32 ∧ t.llValue = 0x92345678#32 ∧
     t.lldValue = 0x8000000000000001#64) ∧
    (let s := withStatus 6#32 kernelState
     let t := run 0x42000018#32 { s with cp0 := { s.cp0 with epc := 0x1000#64, errorEpc := 0x2000#64 } }
     t.pc = 0x2000#64 ∧ t.cp0.status = 2#32) := by decide +kernel

/-- In a delay slot an exception saves the branch's address and `BD` (T2, program P2). -/
theorem test_delay_slot_exception :
    (let t := run 0x0000000D#32 { kernelState with branchState := .delay }
     t.cp0.epc = kernelState.pc - 4 ∧ t.cp0.cause = 0x80000024#32 ∧ t.branchState = .exception) := by decide +kernel

/-! ### Floating point (V-FM, V-FP, examples of R393 to R419) -/

/-- Moves and views (V-FM-2 to V-FM-8). -/
theorem test_floating_moves :
    (let s := withRegs [(2, 0x1111111122222222#64)] (withCells [(0, 0xAAAAAAAABBBBBBBB#64)] kernelState)
     (run 0x44820800#32 s).fpr[0] = 0x22222222BBBBBBBB#64 ∧ (run 0x44820800#32 s).fpr[1] = 0) ∧
    (run 0x44820800#32 (withRegs [(2, 0x1111111122222222#64)]
      (withCells [(1, 0xAAAAAAAABBBBBBBB#64)] (withStatus 0x24000000#32 kernelState)))).fpr[1] =
        0xAAAAAAAA22222222#64 ∧
    (let s := withCells [(0, 0x8000000100000002#64)] kernelState
     readGpr 2 (run 0x44020800#32 s) = 0xFFFFFFFF80000001#64 ∧
     readGpr 2 (run 0x44220800#32 s) = 0x8000000100000002#64) ∧
    (run 0x44A21000#32 (withRegs [(2, 0x0123456789ABCDEF#64)] kernelState)).fpr[2] = 0x0123456789ABCDEF#64 ∧
    (let t := run 0x44C2F800#32 (withRegs [(2, 0xFFFFFFFFFE800003#64)] kernelState)
     t.fcc = 0xFF#8 ∧ roundingMode t = .down ∧ readGpr 3 (run 0x4443F800#32 t) = 0xFFFFFFFFFE800003#64) ∧
    readGpr 3 (run 0x44430000#32 kernelState) = 0x500#64 ∧
    run 0x44C20000#32 (withRegs [(2, 7)] kernelState) = withRegs [(2, 7)] kernelState := by decide +kernel

/-- Loads and stores (V-FM-12, V-FM-14). -/
theorem test_floating_memory :
    (run 0xC4810000#32 (withRegs [(4, addrA)] (withBytes kernelState))).fpr[0] = 0x8081828300000000#64 ∧
    (run 0xD4820000#32 (withRegs [(4, addrA)] (withBytes kernelState))).fpr[2] = 0x8081828384858687#64 ∧
    (let s := withCells [(0, 0x1122334455667788#64)] (withRegs [(4, addrA)] kernelState)
     memoryValue (run 0xE4800000#32 s) 0x2000 8 = 0x5566778800000000 ∧
     memoryValue (run 0xF4800008#32 s) 0x2008 8 = 0x1122334455667788) := by decide +kernel

/-- Results in a 32-bit register (V-FP-1, 2, 4, 8, 9, 11 to 13, 15, 17, 24; examples of R394 to R409). Each row: word,
cell 0, cell 4, `RM`, register 2 after. -/
theorem test_floating_results32 :
    [
      fp32Case 0x46010080#32 0x400000003F800000#64 0x0#64 0 0x40400000#32,
      fp32Case 0x46010083#32 0x404000003F800000#64 0x0#64 0 0x3EAAAAAB#32,
      fp32Case 0x46010083#32 0x404000003F800000#64 0x0#64 1 0x3EAAAAAA#32,
      fp32Case 0x46010083#32 0x404000003F800000#64 0x0#64 2 0x3EAAAAAB#32,
      fp32Case 0x46010083#32 0x404000003F800000#64 0x0#64 3 0x3EAAAAAA#32,
      fp32Case 0x46010083#32 0x3F800000#64 0x0#64 0 0x7F800000#32,
      fp32Case 0x46010081#32 0x3F80000040400000#64 0x0#64 0 0x40000000#32,
      fp32Case 0x46010082#32 0x4040000040000000#64 0x0#64 0 0x40C00000#32,
      fp32Case 0x46000084#32 0x80000000#64 0x0#64 0 0x80000000#32,
      fp32Case 0x46000085#32 0xFFC00001#64 0x0#64 0 0x7FC00001#32,
      fp32Case 0x46000087#32 0xFFC00001#64 0x0#64 0 0x7FC00001#32,
      fp32Case 0x46000086#32 0x7F800001#64 0x0#64 0 0x7F800001#32,
      fp32Case 0x460000A4#32 0x40200000#64 0x0#64 0 0x2#32, fp32Case 0x460000A4#32 0x40200000#64 0x0#64 1 0x2#32,
      fp32Case 0x460000A4#32 0x40200000#64 0x0#64 2 0x3#32, fp32Case 0x460000A4#32 0x40200000#64 0x0#64 3 0x2#32,
      fp32Case 0x4600008C#32 0xBFE00000#64 0x0#64 0 0xFFFFFFFE#32,
      fp32Case 0x4600008D#32 0xBFE00000#64 0x0#64 0 0xFFFFFFFF#32,
      fp32Case 0x4600008E#32 0xBFE00000#64 0x0#64 0 0xFFFFFFFF#32,
      fp32Case 0x4600008F#32 0xBFE00000#64 0x0#64 0 0xFFFFFFFE#32,
      fp32Case 0x4600008D#32 0x7FC00000#64 0x0#64 0 0x7FFFFFFF#32,
      fp32Case 0x4600008D#32 0x7F800000#64 0x0#64 0 0x7FFFFFFF#32,
      fp32Case 0x4600008D#32 0x4F32D05E#64 0x0#64 0 0x7FFFFFFF#32,
      fp32Case 0x468000A0#32 0x1000001#64 0x0#64 0 0x4B800000#32,
      fp32Case 0x468000A0#32 0x1000001#64 0x0#64 2 0x4B800001#32,
      fp32Case 0x462000A0#32 0x47F0000000000000#64 0x0#64 0 0x7F800000#32,
      fp32Case 0x462000A0#32 0x47F0000000000000#64 0x0#64 1 0x7F7FFFFF#32,
      fp32Case 0x46A000A0#32 0x3#64 0x0#64 0 0x40400000#32,
      fp32Case 0x46000095#32 0x40800000#64 0x0#64 0 0x3E800000#32,
      fp32Case 0x46000096#32 0x40800000#64 0x0#64 0 0x3F000000#32,
      fp32Case 0x4620008C#32 0x41DFFFFFFFE00000#64 0x0#64 0 0x7FFFFFFF#32,
      fp32Case 0x4620008D#32 0xC007333333333333#64 0x0#64 0 0xFFFFFFFE#32,
      fp32Case 0x4620008E#32 0x3FD0000000000000#64 0x0#64 0 0x1#32,
      fp32Case 0x4620008F#32 0xBFD0000000000000#64 0x0#64 0 0xFFFFFFFF#32,
      fp32Case 0x462000A4#32 0x4004000000000000#64 0x0#64 2 0x3#32].all id = true := by
  decide +kernel

/-- Results in a 64-bit register (V-FP-3, 7, 10, 14, 16, 24; examples of R393 to R413). -/
theorem test_floating_results64 :
    [
      fp64Case 0x46240083#32 0x3FF0000000000000#64 0x4008000000000000#64 0 0x3FD5555555555555#64,
      fp64Case 0x46240083#32 0x3FF0000000000000#64 0x4008000000000000#64 2 0x3FD5555555555556#64,
      fp64Case 0x46240082#32 0x4000000000000000#64 0x4008000000000000#64 0 0x4018000000000000#64,
      fp64Case 0x46240080#32 0x3FF8000000000000#64 0x4002000000000000#64 0 0x400E000000000000#64,
      fp64Case 0x46240081#32 0x4008000000000000#64 0x3FF0000000000000#64 0 0x4000000000000000#64,
      fp64Case 0x46200084#32 0x4010000000000000#64 0x0#64 0 0x4000000000000000#64,
      fp64Case 0x46202086#32 0x0#64 0x7FF0000000000001#64 0 0x7FF0000000000001#64,
      fp64Case 0x46200085#32 0xBFF0000000000000#64 0x0#64 0 0x3FF0000000000000#64,
      fp64Case 0x46200087#32 0x0#64 0x0#64 0 0x8000000000000000#64,
      fp64Case 0x46200089#32 0xC3E0000000000000#64 0x0#64 0 0x8000000000000000#64,
      fp64Case 0x46200088#32 0xC004000000000000#64 0x0#64 0 0xFFFFFFFFFFFFFFFE#64,
      fp64Case 0x4620008A#32 0xBFF4000000000000#64 0x0#64 0 0xFFFFFFFFFFFFFFFF#64,
      fp64Case 0x4620008B#32 0xBFF4000000000000#64 0x0#64 0 0xFFFFFFFFFFFFFFFE#64,
      fp64Case 0x46000089#32 0xBFE00000#64 0x0#64 0 0xFFFFFFFFFFFFFFFF#64,
      fp64Case 0x46000088#32 0x40200000#64 0x0#64 0 0x2#64, fp64Case 0x4600008A#32 0x3FA00000#64 0x0#64 0 0x2#64,
      fp64Case 0x4600008B#32 0x3FA00000#64 0x0#64 0 0x1#64,
      fp64Case 0x460000A1#32 0x3FC00000#64 0x0#64 0 0x3FF8000000000000#64,
      fp64Case 0x468000A1#32 0xFFFFFFFF#64 0x0#64 0 0xBFF0000000000000#64,
      fp64Case 0x46A000A1#32 0x3#64 0x0#64 0 0x4008000000000000#64,
      fp64Case 0x462000A5#32 0x43E0000000000000#64 0x0#64 0 0x7FFFFFFFFFFFFFFF#64,
      fp64Case 0x460000A5#32 0x40200000#64 0x0#64 2 0x3#64,
      fp64Case 0x46200095#32 0x4010000000000000#64 0x0#64 0 0x3FD0000000000000#64,
      fp64Case 0x46200096#32 0x4010000000000000#64 0x0#64 0 0x3FE0000000000000#64].all id = true := by
  decide +kernel

/-- All sixteen conditions in both formats on 1.0 against 2.0, 1.0 against 1.0 and a NaN against 2.0 (R426, V-FP-19,
V-FP-20): bit `c` of the number tells what condition `c` answers. -/
theorem test_compares :
    ∀ c ∈ List.range 16,
      let single := fun (a b : Word) => (run (BitVec.ofNat 32 (0x46010030 + c))
        (withCells [(0, b <<< 32 ||| a)] kernelState)).fcc.getLsbD 0
      let double := fun (a b : Word) => (run (BitVec.ofNat 32 (0x46240030 + c))
        (withCells [(0, a), (4, b)] kernelState)).fcc.getLsbD 0
      single 0x3F800000#64 0x40000000#64 = Nat.testBit 0xF0F0 c ∧
      single 0x3F800000#64 0x3F800000#64 = Nat.testBit 0xCCCC c ∧
      single 0x7FC00000#64 0x40000000#64 = Nat.testBit 0xAAAA c ∧
      double 0x3FF0000000000000#64 0x4000000000000000#64 = Nat.testBit 0xF0F0 c ∧
      double 0x3FF0000000000000#64 0x3FF0000000000000#64 = Nat.testBit 0xCCCC c ∧
      double 0x7FF8000000000000#64 0x4000000000000000#64 = Nat.testBit 0xAAAA c := by decide +kernel

/-- -0 equals +0, in condition bit 7 alone (V-FP-21). -/
theorem test_compare_zeros :
    (run 0x46220732#32 (withCells [(0, 0), (2, 0x8000000000000000#64)] { kernelState with fcc := 0x15#8 })).fcc =
      0x95#8 := by decide +kernel

/-- Conditional moves in both formats (V-FP-22, V-FP-23): on condition bit 0, and on all 64 bits of `x5`. -/
theorem test_conditional_moves :
    [moveCase 0x46002091#32 0, moveCase 0x46202091#32 0, moveCase 0x46052092#32 0, moveCase 0x46252092#32 0,
      moveCase 0x46012091#32 7, moveCase 0x46212091#32 7, moveCase 0x46052093#32 7, moveCase 0x46252093#32 7,
      moveCase 0x46002092#32 7, moveCase 0x46202092#32 7].all id = true := by
  decide +kernel

/-! ### Every statement's hypotheses can be met

One theorem for each statement that has hypotheses, named after it. -/

theorem witness_DecodingInvertsEncoding :
    Instr.wellFormed (.sll 31 31 31) = true ∧ Instr.wellFormed (.cNgtD 7 31 31) = true ∧
    Instr.wellFormed .eret = true := by decide

theorem witness_DecodedInstructionsAreWellFormed : decodeWord 0xFFFFFFFF#32 = .instr (.sd 31 0xFFFF 31) := by decide

/-- A state that fetches `LW $2,0($4)`; with 12 physical address bits it fetches from a low address. -/
def fetchState (w : Word32) (paBits : Nat) : State :=
  { storeWord 0 w (withRegs [(4, 0xFFFFFFFF9FFFF000#64)] kernelState) with
    pc := 0xFFFFFFFF80000000#64
    cfg := { Config.default with paBits := paBits } }

theorem witness_ResetLeavesTheStatedValues :
    36 ≤ Config.default.paBits ∧ { Config.default with configReset := 0x8000#32 }.beBitAgrees = true ∧
    { Config.default with bigEndian := false }.beBitAgrees = true := by decide

theorem witness_StepRunsTheDecodedInstruction :
    interruptPending (beginStep (fetchState 0x8C820000#32 36)) = false ∧
    fetchWord (beginStep (fetchState 0x8C820000#32 36)) = .ok 0x8C820000#32 ∧
    decodeWord 0x8C820000#32 = .instr (.lw 2 0 4) ∧
    (match exec (.lw 2 0 4) (beginStep (fetchState 0x8C820000#32 36)) with | .next _ => true | _ => false) = true ∧
    fetchWord (beginStep (fetchState 0x8C820000#32 12)) = .ok 0x8C820000#32 ∧
    (match exec (.lw 2 0 4) (beginStep (fetchState 0x8C820000#32 12)) with | .fault _ => true | _ => false) = true := by
  decide +kernel

theorem witness_BranchPipelineResolution :
    (∀ b : BranchState, { kernelState with branchState := b }.branchState = b) ∧
    (match step kernelState with | .next _ => true | _ => false) = true :=
  ⟨fun _ => rfl, by decide +kernel⟩

theorem witness_DelaySlotRunsBeforeTheTarget :
    (match exec (.beq 0 0 3) kernelState with
      | .next t => decide ((retire t).branchState = .delay) && !statusExl (retire t)
      | _ => false) = true ∧ readGpr 0 kernelState = readGpr 0 kernelState := by decide +kernel

theorem witness_ExceptionCodesAndVectors :
    (withStatus 0x00400000#32 kernelState).cp0.status.getLsbD 22 = true ∧ kernelState.cp0.status.getLsbD 22 = false ∧
    (∀ m, Exc.overflow ≠ .coprocessorUnusable m) ∧
    (∀ a w, Exc.overflow ≠ .tlbl a (.refill w) ∧ Exc.overflow ≠ .tlbs a (.refill w)) := by
  refine ⟨by decide, by decide, ?_, ?_⟩ <;> simp

theorem witness_ExceptionEntry :
    statusExl kernelState = false ∧ { kernelState with branchState := .delay }.branchState = .delay ∧
    kernelState.branchState ≠ .delay ∧ statusExl (withStatus 2 kernelState) = true := by decide

theorem witness_FaultRegistersLoaded :
    Exc.tlbMod 8 = .tlbMod 8 ∧ Exc.adel 8 = .adel 8 ∧
    (∀ a, Exc.ibe ≠ .adel a ∧ Exc.ibe ≠ .ades a ∧ Exc.ibe ≠ .tlbMod a ∧
      ∀ y, Exc.ibe ≠ .tlbl a y ∧ Exc.ibe ≠ .tlbs a y) := by
  refine ⟨rfl, rfl, ?_⟩
  simp

theorem witness_InterruptTakenAtStepStart :
    interruptPending (beginStep { withStatus 0x401#32 kernelState with inputs := [[.setLine 0 true]] }) = true := by
  decide

theorem witness_ExceptionReturn :
    cp0Usable kernelState = true ∧ statusErl kernelState = false ∧
    cp0Usable (withStatus 4 kernelState) = true ∧ statusErl (withStatus 4 kernelState) = true := by decide

theorem witness_CountAndCompareWrites :
    cp0Usable kernelState = true ∧ 0 < kernelState.cfg.countDiv ∧ kernelState.cfg.countDiv ≤ 2 ^ 32 := by decide

theorem witness_TimerDeadlineIsTheNextMatch :
    0 < kernelState.cfg.countDiv ∧
    elapsedCycles kernelState + 2 ^ 32 * kernelState.cfg.countDiv + kernelState.cfg.countDiv < 2 ^ 64 := by decide

theorem witness_TimerCheckRequestsAtTheDeadline :
    0 < kernelState.cfg.countDiv ∧ kernelState.cycles.toNat + 2 ^ 32 * kernelState.cfg.countDiv < 2 ^ 64 ∧
    { kernelState with compareArmed := true }.timerDeadline ≤ { kernelState with compareArmed := true }.cycles ∧
    ¬(kernelState.compareArmed = true ∧ kernelState.timerDeadline ≤ kernelState.cycles) := by decide

theorem witness_UnmappedWindows :
    mode kernelState = some .kernel ∧ 36 ≤ kernelState.cfg.paBits ∧
    0xFFFFFFFF80000000 ≤ (0xFFFFFFFF9FFFFFFF#64).toNat ∧ (0xFFFFFFFF9FFFFFFF#64).toNat ≤ 0xFFFFFFFF9FFFFFFF ∧
    0xFFFFFFFFA0000000 ≤ (0xFFFFFFFFA0000000#64).toNat ∧ (0xFFFFFFFFA0000000#64).toNat ≤ 0xFFFFFFFFBFFFFFFF ∧
    mode (withStatus 0x80 kernelState) = some .kernel ∧ addr64 .kernel (withStatus 0x80 kernelState) = true ∧
    (0x9800000FFFFFFFFF#64).extractLsb' 62 2 = 2#2 ∧ (0x9800000FFFFFFFFF#64).extractLsb' 36 23 = 0 := by decide

/-- In each mode and width: the first address behind a segment, or the last one before, and one inside. -/
theorem witness_AddressesOutsideSegmentsAreErrors :
    (mode (withStatus 0x10 kernelState) = some .user ∧ addr64 .user (withStatus 0x10 kernelState) = false ∧
      mode (withStatus 0x30 kernelState) = some .user ∧ addr64 .user (withStatus 0x30 kernelState) = true ∧
      mode (withStatus 0x08 kernelState) = some .supervisor ∧
      addr64 .supervisor (withStatus 0x08 kernelState) = false ∧
      mode (withStatus 0x48 kernelState) = some .supervisor ∧
      addr64 .supervisor (withStatus 0x48 kernelState) = true ∧ mode kernelState = some .kernel ∧
      addr64 .kernel kernelState = false ∧ mode (withStatus 0x80 kernelState) = some .kernel ∧
      addr64 .kernel (withStatus 0x80 kernelState) = true) ∧
    (¬ InMappedSegment .user false 0x80000000#64 ∧ ¬ InUnmappedSegment .user false 0x80000000#64 ∧
      ¬ InMappedSegment .user true 0x10000000000#64 ∧
      ¬ InMappedSegment .supervisor false 0xFFFFFFFFBFFFFFFF#64 ∧
      ¬ InMappedSegment .supervisor true 0x3FFFFFFFFFFFFFFF#64 ∧
      ¬ InMappedSegment .supervisor true 0x4000010000000000#64 ∧
      ¬ InMappedSegment .kernel false 0xFFFFFFFF7FFFFFFF#64 ∧
      ¬ InUnmappedSegment .kernel false 0xFFFFFFFF7FFFFFFF#64 ∧
      ¬ InMappedSegment .kernel true 0x4000010000000000#64 ∧
      ¬ InUnmappedSegment .kernel true 0x4000010000000000#64 ∧
      ¬ InMappedSegment .kernel true 0x8000001000000000#64 ∧
      ¬ InUnmappedSegment .kernel true 0x8000001000000000#64 ∧
      ¬ InMappedSegment .kernel true 0xC00000FF80000000#64) ∧
    InMappedSegment .supervisor true 0x400000FFFFFFFFFF#64 ∧ InUnmappedSegment .kernel true 0xB800000FFFFFFFFF#64 := by
  refine ⟨by decide, ⟨?_, ?_, ?_, ?_, ?_, ?_, ?_, ?_, ?_, ?_, ?_, ?_, ?_⟩, ?_, ?_⟩ <;>
  simp only [InMappedSegment, InUnmappedSegment] <;> decide

/-- A state of user mode whose entry 0 maps virtual 0x2000 to physical 0x2000, with these low bits of EntryLo0 >> 1. -/
def userState (lo0 : BitVec 29) : State :=
  { withStatus 0x20000010#32 kernelState with
    tlb := kernelState.tlb.set 0 ⟨0, 0, 1, 0, true, lo0, 0⟩ }

theorem witness_MappedTranslationThroughTheTlb :
    (mode (userState 0x43) = some .user ∧ addr64 .user (userState 0x43) = false ∧
      InMappedSegment .user false 0x2000#64 ∧ InMappedSegment .user false 0x7FFFFFFF#64 ∧
      InMappedSegment .kernel true 0xC00000FF7FFFFFFF#64 ∧ InMappedSegment .kernel false 0xFFFFFFFFC0000000#64 ∧
      InMappedSegment .supervisor true 0x4000000000000000#64) ∧
    (userState 0x43).tlb.toList = [] ++ (⟨0, 0, 1, 0, true, 0x43, 0⟩ : TlbEntry) ::
      List.replicate 47 TlbEntry.reset ∧
    (∃ pb, ((0#12).toNat, pb) ∈ [((0x000 : Nat), (12 : Nat)), (0x003, 14)]) ∧
    (∀ k, k < 19 → (0#12).getLsbD k = false → (0x2000#64).getLsbD (13 + k) = (1#27).getLsbD k) ∧
    (∀ e ∈ (userState 0x43).tlb.toList, ¬ (e.g = true ∧
      ∀ k, k < 19 → e.mask.getLsbD k = false → (0x7FFFFFFF#64).getLsbD (13 + k) = e.vpn2.getLsbD k)) ∧
    (∀ e ∈ (userState 0x43).tlb.toList, ¬ (e.asid = 1#8)) ∧
    (0x40#29).getLsbD 0 = false ∧ (0x41#29).getLsbD 0 = true ∧ (0x41#29).getLsbD 1 = false ∧
    (0x43#29).getLsbD 1 = true := by
  refine ⟨⟨by decide, by decide, ?_, ?_, ?_, ?_, ?_⟩, by decide +kernel, ⟨12, by simp⟩, by decide, by decide +kernel,
    by decide +kernel, by decide, by decide, by decide, by decide⟩ <;>
  simp only [InMappedSegment] <;> decide

theorem witness_UnusableFloatingPointUnit :
    opField 0x44600000#32 ∈ [0x11, 0x31, 0x35, 0x39, 0x3D] ∧ opField 0xF4800008#32 ∈ [0x11, 0x31, 0x35, 0x39, 0x3D] ∧
    (withStatus 0 kernelState).cp0.status.getLsbD 29 = false := by decide

theorem witness_ReservedAndUnusableEncodingsRaise :
    decodeWord 0x42000019#32 = .reserved .cop0 ∧ cp0Usable kernelState = true ∧
    decodeWord 0x44600000#32 = .reserved .cop1 ∧ kernelState.cp0.status.getLsbD 29 = true ∧
    opField 0x40026000#32 ∈ [0x10, 0x2F] ∧ mode (withStatus 0x10 kernelState) ≠ some .kernel ∧
    (withStatus 0x10 kernelState).cp0.status.getLsbD 28 = false ∧
    opField 0xC8000000#32 ∈ [0x12, 0x32, 0x36, 0x3A, 0x3E] ∧
    decodeWord 0xCC000000#32 = .reserved .primary ∧ decodeWord 0xEC000000#32 = .reserved .primary ∧
    decodeWord 0x00000001#32 = .reserved .special ∧ decodeWord 0x04140000#32 = .reserved .regimm ∧
    decodeWord 0x41020002#32 = .reserved .cop0 ∧ decodeWord 0x40600000#32 = .reserved .cop0 ∧
    decodeWord 0x46000020#32 = .reserved .cop1 ∧ decodeWord 0x46800000#32 = .reserved .cop1 := by decide

theorem witness_UserInstructionsCannotReachSystemState :
    mode (userState 0x43) = some .user ∧ (userState 0x43).cp0.status.getLsbD 28 = false ∧
    (match exec (.addu 1 2 3) (userState 0x43) with | .next _ => true | _ => false) = true ∧
    (match step (userState 0x43) with | .next _ => true | _ => false) = true := by decide +kernel

theorem witness_EveryWordAndStepCompletes :
    mode kernelState ≠ none ∧ 36 ≤ kernelState.cfg.paBits ∧ mode (beginStep kernelState) ≠ none := by decide +kernel

theorem witness_EveryStepKeepsTheInvariant :
    Inv kernelState ∧ (match step kernelState with | .next _ => true | _ => false) = true :=
  ⟨⟨by decide, by decide, by unfold ReservedBitsZero; decide, by decide⟩, by decide +kernel⟩

theorem witness_ReadOnlyStateNeverChanges :
    (match step kernelState with | .next _ => true | _ => false) = true := by decide +kernel

theorem witness_ModeTransitions :
    cp0Usable (withStatus 0x14 kernelState) = true ∧ statusErl (withStatus 0x14 kernelState) = true ∧
    statusExl (withStatus 0x14 kernelState) = false ∧ statusErl (withStatus 0x12 kernelState) = false ∧
    (match exec .eret (withStatus 0x14 kernelState) with
      | .next t => decide (mode t ≠ mode (withStatus 0x14 kernelState))
      | _ => false) = true ∧
    (match step (userState 0x43) with | .next t => decide (mode t ≠ mode (userState 0x43)) | _ => false) = true ∧
    (match step (withStatus 0x14 (fetchState 0x42000018#32 36)) with
      | .next t => decide (mode t = some .user ∧ t.cp0.cause = 0)
      | _ => false) = true := by
  decide +kernel

theorem witness_TrappingAddAndSubtract :
    kernelState.cfg.overflowTraps = true ∧
    ¬(-(2 : Int) ^ (32 - 1) ≤ (2147483647 : Int) + 1 ∧ (2147483647 : Int) + 1 ≤ (2 : Int) ^ (32 - 1) - 1) ∧
    (-(2 : Int) ^ (32 - 1) ≤ (-2147483648 : Int) ∧ (2147483647 : Int) ≤ (2 : Int) ^ (32 - 1) - 1) := by decide

theorem witness_ShiftResults : (31 : Nat) < 32 := by decide

theorem witness_Divisions :
    signedLow (readGpr 1 (withRegs [(1, 7)] kernelState)) ≠ 0 ∧
    unsignedLow (readGpr 1 (withRegs [(1, 7)] kernelState)) ≠ 0 ∧ readGpr 1 (withRegs [(1, 7)] kernelState) ≠ 0 ∧
    signedLow (readGpr 0 kernelState) = 0 ∧ unsignedLow (readGpr 0 kernelState) = 0 ∧
    readGpr 0 kernelState = 0 := by decide

theorem witness_ConditionalBranches :
    (7 : Nat) < 8 ∧ readGpr 0 kernelState = readGpr 0 kernelState ∧
    readGpr 1 (withRegs [(1, 0xFFFFFFFFFFFFFFFF#64)] kernelState) ≠ readGpr 0 kernelState ∧
    (readGpr 1 (withRegs [(1, 0xFFFFFFFFFFFFFFFF#64)] kernelState)).toInt < 0 ∧
    0 < (readGpr 1 (withRegs [(1, 1)] kernelState)).toInt ∧ kernelState.cp0.status.getLsbD 29 = true ∧
    kernelState.fcc.getLsbD 7 = false ∧ { kernelState with fcc := 0x80 }.fcc.getLsbD 7 = true ∧
    cp0Usable kernelState = true ∧ kernelState.cc0.getLsbD 0 = false ∧
    { kernelState with cc0 := 1 }.cc0.getLsbD 0 = true := by decide

theorem witness_ConditionalTraps :
    (readGpr 0 kernelState).toInt ≤ (readGpr 0 kernelState).toInt ∧
    ¬ (readGpr 1 (withRegs [(1, 1)] kernelState)).toInt ≤ (readGpr 0 kernelState).toInt := by decide

theorem witness_SystemCallsNoOpsAndCoprocessor2 : cp0Usable kernelState = true := by decide

/-- The bytes at 0x2000 can be read and written, at every width. -/
theorem memory_ready :
    (∀ n ∈ [1, 2, 4, 8], LoadReady (withBytes kernelState) addrA n 0x2000) ∧
    (∀ n ∈ [1, 2, 4, 8], StoreReady (withBytes kernelState) addrA n 0x2000) := by
  simp only [List.mem_cons, List.not_mem_nil, or_false, forall_eq_or_imp, forall_eq]
  refine ⟨⟨?_, ?_, ?_, ?_⟩, ?_, ?_, ?_, ?_⟩
  · exact ⟨by decide, ⟨_, rfl⟩, by decide⟩
  · exact ⟨by decide, ⟨_, rfl⟩, by decide⟩
  · exact ⟨by decide, ⟨_, rfl⟩, by decide⟩
  · exact ⟨by decide, ⟨_, rfl⟩, by decide⟩
  · exact ⟨by decide, ⟨_, rfl⟩, by decide, by decide⟩
  · exact ⟨by decide, ⟨_, rfl⟩, by decide, by decide⟩
  · exact ⟨by decide, ⟨_, rfl⟩, by decide, by decide⟩
  · exact ⟨by decide, ⟨_, rfl⟩, by decide, by decide⟩

theorem witness_AlignedLoads :
    LoadReady (withRegs [(4, addrA)] (withBytes kernelState))
      (readGpr 4 (withRegs [(4, addrA)] (withBytes kernelState)) + BitVec.ofInt 64 (0#16).toInt) 8 0x2000 :=
  ⟨by decide, ⟨_, rfl⟩, by decide⟩

theorem witness_AlignedStores :
    StoreReady (withRegs [(4, addrA)] (withBytes kernelState))
      (readGpr 4 (withRegs [(4, addrA)] (withBytes kernelState)) + BitVec.ofInt 64 (0#16).toInt) 8 0x2000 :=
  ⟨by decide, ⟨_, rfl⟩, by decide, by decide⟩

/-- A platform that answers no access to the bytes from 0x2000 on. -/
def holeState : State :=
  { withRegs [(4, addrA)] kernelState with cfg := { Config.default with busHoles := [⟨0x2000, 16, true, true⟩] } }

/-- The same platform taking reads, but no writes, there; the latch holds what memory reads as. -/
def readOnlyState : State :=
  { holeState with cfg := { Config.default with busHoles := [⟨0x2000, 16, false, true⟩] }, llValue := 0 }

theorem witness_FailedAccessesRaise :
    (addrA + 2).toNat % 4 ≠ 0 ∧ addrA.toNat % 8 = 0 ∧
    translate (withStatus 0x10 kernelState) addrA .read = .raised (.adel addrA) ∧
    translate (withStatus 0x10 kernelState) addrA .write = .raised (.ades addrA) ∧
    translate holeState addrA .read = .ok (0x2000, ⟨0, false⟩) ∧
    translate holeState addrA .write = .ok (0x2000, ⟨0, false⟩) ∧
    busFails holeState.cfg false 0x2000 8 = true ∧ busFails holeState.cfg true 0x2000 1 = true ∧
    translate readOnlyState addrA .write = .ok (0x2000, ⟨0, false⟩) ∧
    busFails readOnlyState.cfg false 0x2000 4 = false ∧
    memoryValue readOnlyState 0x2000 4 = readOnlyState.llValue.toNat ∧
    busFails readOnlyState.cfg true 0x2000 4 = true ∧
    kernelState.cp0.status.getLsbD 29 = true ∧
    interruptPending (beginStep { kernelState with pc := 2 }) = false ∧
    (beginStep { kernelState with pc := 2 }).pc.toNat % 4 ≠ 0 ∧
    translate (beginStep { kernelState with pc := 0x80000000#64 }) 0x80000000#64 .fetch =
      .raised (.adel 0x80000000#64) ∧
    busFails (beginStep { holeState with pc := addrA }).cfg false 0x2000 4 = true ∧
    mode (beginStep (withStatus 0x18 kernelState)) = none := by decide +kernel

theorem witness_PartialLoads :
    LoadReady (withBytes kernelState) ((addrA + 3) &&& ~~~3#64) 4 0x2000 ∧
    LoadReady (withBytes kernelState) ((addrA + 7) &&& ~~~7#64) 8 0x2000 :=
  ⟨⟨by decide, ⟨_, rfl⟩, by decide⟩, by decide, ⟨_, rfl⟩, by decide⟩

theorem witness_PartialStores :
    StoreReady (withBytes kernelState) ((addrA + 3) &&& ~~~3#64) 4 0x2000 ∧
    StoreReady (withBytes kernelState) ((addrA + 7) &&& ~~~7#64) 8 0x2000 :=
  ⟨⟨by decide, ⟨_, rfl⟩, by decide, by decide⟩, by decide, ⟨_, rfl⟩, by decide, by decide⟩

theorem witness_LinkedLoadsAndConditionalStores :
    StoreReady (withBytes kernelState) addrA 4 0x2000 ∧ busFails kernelState.cfg false 0x2000 4 = false ∧
    memoryValue { withBytes kernelState with llValue := 0x80818283#32 } 0x2000 4 =
      { withBytes kernelState with llValue := 0x80818283#32 }.llValue.toNat ∧
    memoryValue (withBytes kernelState) 0x2000 4 ≠ (withBytes kernelState).llValue.toNat :=
  ⟨⟨by decide, ⟨_, rfl⟩, by decide, by decide⟩, by decide, by decide, by decide⟩

theorem witness_FloatingLoadsAndStores :
    kernelState.cp0.status.getLsbD 29 = true ∧ LoadReady (withBytes kernelState) addrA 8 0x2000 ∧
    StoreReady (withBytes kernelState) addrA 8 0x2000 :=
  ⟨by decide, ⟨by decide, ⟨_, rfl⟩, by decide⟩, by decide, ⟨_, rfl⟩, by decide, by decide⟩

theorem witness_MovesFromSystemRegisters :
    cp0Usable kernelState = true ∧ (31 : Reg) ≠ 1 ∧ wired kernelState ≤ 47 ∧
    wired { kernelState with cp0 := { kernelState.cp0 with wired := 47 } } = 47 := by decide

theorem witness_MovesToSystemRegisters :
    cp0Usable kernelState = true ∧ ReservedBitsZero kernelState.cp0 ∧ (10 : Reg) ≠ 9 ∧ (10 : Reg) ≠ 11 :=
  ⟨by decide, by unfold ReservedBitsZero; decide, by decide, by decide⟩

theorem witness_TlbWrites :
    cp0Usable tlbState = true ∧ tlbState.cp0.index.toNat % 64 ≤ 47 ∧
    48 ≤ { tlbState.cp0 with index := 48#32 }.index.toNat % 64 ∧ wired tlbState ≤ 47 := by decide

theorem witness_TlbReadAndRoundTrip :
    cp0Usable tlbState = true ∧ ReservedBitsZero tlbState.cp0 ∧ tlbState.cp0.index.toNat % 64 ≤ 47 ∧
    48 ≤ { tlbState.cp0 with index := 63#32 }.index.toNat % 64 ∧
    (match exec .tlbwi tlbState with | .next _ => true | _ => false) = true :=
  ⟨by decide, by unfold ReservedBitsZero; decide, by decide, by decide, by decide +kernel⟩

/-- What a probe compares, for the state before and after V-TLB-1: entry 7 answers, and before it none did. -/
theorem witness_TlbProbe :
    cp0Usable tlbState = true ∧ probeIndex (run 0x42000002#32 tlbState) = some 7 ∧ probeIndex tlbState = none := by
  decide +kernel

theorem witness_FloatingMoves :
    kernelState.cp0.status.getLsbD 29 = true ∧ (31 : Reg) ≠ 0 ∧ (0 : Reg) ≠ 31 ∧
    (0xFFFFFFFC#32).toNat % 4 = 0 ∧ (0x1#32).toNat % 4 = 1 ∧ (0x2#32).toNat % 4 = 2 := by decide

theorem witness_FloatingRegisterPairs :
    (30 : Reg).getLsbD 0 = false ∧ kernelState.cp0.status.getLsbD 26 = false ∧
    (withStatus 0x24000000 kernelState).cp0.status.getLsbD 26 = true := by decide

theorem witness_FloatingArithmetic :
    kernelState.cp0.status.getLsbD 29 = true ∧ kernelState.cfg.numerics = .specDefault := by decide

theorem patternValue_one : patternValue binary32 0x3F800000 = 1 := by
  norm_num [patternValue, magnitudeValue, signOf, magnitudeOf, binary32, minExponent]

theorem witness_ArithmeticIsCorrectlyRounded :
    IsFinitePattern binary32 0x3F800000 ∧ IsFinitePattern binary64 0x7FEFFFFFFFFFFFFF ∧
    patternValue binary32 0x3F800000 + patternValue binary32 0x3F800000 ≠ 0 ∧
    0 < patternValue binary32 0x3F800000 := by
  refine ⟨by unfold IsFinitePattern; decide, by unfold IsFinitePattern; decide, ?_, ?_⟩ <;>
    norm_num [patternValue_one]

theorem witness_SpecialArithmeticResults :
    magnitudeOf binary32 0x80000000 = 0 ∧ IsFinitePattern binary32 0x3F800000 ∧
    IsFinitePattern binary32 0xBF800000 ∧
    patternValue binary32 0x3F800000 + patternValue binary32 0xBF800000 = 0 ∧
    patternValue binary32 0x3F800000 - patternValue binary32 0x3F800000 = 0 ∧
    magnitudeOf binary32 0x3F800000 ≠ 0 ∧ IsInfinityPattern binary32 0xFF800000 ∧
    IsInfinityPattern binary32 0x7F800000 ∧ signOf binary32 0x7F800000 = false ∧
    signOf binary32 0xFF800000 ≠ signOf binary32 0x7F800000 ∧
    ieeeFunction binary32 .sqrt .nearestEven 0x40800000 0 = some 0x40000000 ∧
    ieeeFunction binary32 .sqrt .nearestEven 0xBF800000 0 = none := by
  refine ⟨by decide, by unfold IsFinitePattern; decide, by unfold IsFinitePattern; decide, ?_, sub_self _, by decide,
    by unfold IsInfinityPattern; decide, by unfold IsInfinityPattern; decide, by decide, by decide,
    by decide +kernel, by decide +kernel⟩
  norm_num [patternValue, magnitudeValue, signOf, magnitudeOf, binary32, minExponent]

theorem witness_FloatingSignsAndConditionalMoves :
    kernelState.cp0.status.getLsbD 29 = true ∧ (7 : Nat) < 8 ∧ kernelState.fcc.getLsbD 7 = false ∧
    { kernelState with fcc := 0x80 }.fcc.getLsbD 7 = true ∧ readGpr 0 kernelState = 0 ∧
    readGpr 1 (withRegs [(1, 5)] kernelState) ≠ 0 := by decide

theorem witness_ConversionsToIntegers :
    kernelState.cp0.status.getLsbD 29 = true ∧ IsFinitePattern binary32 0x7F7FFFFF ∧
    ¬ IsFinitePattern binary32 0x7F800000 := by
  refine ⟨by decide, by unfold IsFinitePattern; decide, by unfold IsFinitePattern; decide⟩

theorem witness_ConversionsToFloatingPoint :
    kernelState.cp0.status.getLsbD 29 = true ∧ isNan binary64 0x7FF0000000000001 = true ∧
    IsInfinityPattern binary64 0x7FF0000000000000 ∧ magnitudeOf binary64 0x8000000000000000 = 0 ∧
    IsFinitePattern binary64 0x7FEFFFFFFFFFFFFF ∧ magnitudeOf binary64 0x7FEFFFFFFFFFFFFF ≠ 0 ∧
    (lo32 0).toInt = 0 ∧ (lo32 1).toInt ≠ 0 := by
  refine ⟨by decide, by decide, by unfold IsInfinityPattern; decide, by decide,
    by unfold IsFinitePattern; decide, by decide, by decide, by decide⟩

theorem witness_CompareInstructions : kernelState.cp0.status.getLsbD 29 = true ∧ (7 : Nat) < 8 := by decide

theorem witness_ComparisonIsNumeric :
    (compareValues binary32 0x7FC00000 0).unordered = true ∧ IsFinitePattern binary32 0x3F800000 ∧
    IsInfinityPattern binary32 0x7F800000 := by
  refine ⟨by decide, by unfold IsFinitePattern; decide, by unfold IsInfinityPattern; decide⟩

end Sys2Proof.Tests
end

section
/-! SUPPORT. The branch pipeline (R241): what its transition does in each of its five states, and that every step that
completes ends with it (R10 step 5). -/

namespace Sys2Proof.Machine

variable {s t : State}

/-! ### The transition, state by state -/

theorem resolveBranchPipeline_of_none (h : s.branchState = .none) :
    resolveBranchPipeline s = { s with pc := s.pc + 4 } := by
  simp only [resolveBranchPipeline, h]

theorem resolveBranchPipeline_of_delay (h : s.branchState = .delay) :
    resolveBranchPipeline s = { s with pc := s.branchTarget, branchState := .none } := by
  simp only [resolveBranchPipeline, h]

theorem resolveBranchPipeline_of_branch (h : s.branchState = .branch) :
    resolveBranchPipeline s = { s with pc := s.pc + 4, branchState := .delay } := by
  simp only [resolveBranchPipeline, h]

theorem resolveBranchPipeline_of_exception (h : s.branchState = .exception) :
    resolveBranchPipeline s = { s with branchState := .none } := by
  simp only [resolveBranchPipeline, h]

theorem resolveBranchPipeline_of_nullify (h : s.branchState = .nullify) :
    resolveBranchPipeline s = { s with pc := s.pc + 8, branchState := .none } := by
  simp only [resolveBranchPipeline, h]

/-! ### The end of a step -/

@[simp] theorem retire_pc (s : State) : (retire s).pc = (resolveBranchPipeline s).pc := rfl

@[simp] theorem retire_branchState (s : State) :
    (retire s).branchState = (resolveBranchPipeline s).branchState := rfl

/-- Only an execution that completes is retired. -/
theorem retireResult_eq_next_iff {r : Result} :
    retireResult r = .next t ↔ ∃ u, r = .next u ∧ retire u = t := by
  cases r <;> simp [retireResult]

/-- The two sides of a step that completes (R10, R513): the interrupt entry, or fetch and execution; either is
retired. -/
theorem step_eq_next_iff :
    step s = .next t ↔
      if interruptPending (beginStep s) then retire (raise .interrupt (beginStep s)) = t
      else ∃ u, fetchAndExecute (beginStep s) = .next u ∧ retire u = t := by
  simp only [step, runStep]
  split
  · simp [retireResult_eq_next_iff]
  · exact retireResult_eq_next_iff

/-- A step that completes is the retirement of an interrupt entry or of an execution. -/
theorem exists_retire_eq_of_step_next (h : step s = .next t) :
    ∃ u, (u = raise .interrupt (beginStep s) ∨ fetchAndExecute (beginStep s) = .next u) ∧ retire u = t := by
  rw [step_eq_next_iff] at h
  split at h
  · exact ⟨_, .inl rfl, h⟩
  · obtain ⟨u, hu, ht⟩ := h
    exact ⟨u, .inr hu, ht⟩

end Sys2Proof.Machine

namespace Sys2Proof.Proofs

open Sys2Proof.Machine

/-- Settles O6: the five transitions by the equation of each state, and the end of a step by what `retire` does to the
three pipeline fields. -/
theorem branchPipelineResolution : Obligations.BranchPipelineResolution := by
  unfold Obligations.BranchPipelineResolution
  constructor
  · intro s
    refine ⟨fun h => ?none, fun h => ?delay, fun h => ?branch, fun h => ?exception, fun h => ?nullify⟩
    case none => simp [resolveBranchPipeline_of_none h, h]
    case delay => simp [resolveBranchPipeline_of_delay h]
    case branch => simp [resolveBranchPipeline_of_branch h]
    case exception => simp [resolveBranchPipeline_of_exception h]
    case nullify => simp [resolveBranchPipeline_of_nullify h]
  · intro s t h
    obtain ⟨u, hu, rfl⟩ := exists_retire_eq_of_step_next h
    exact ⟨u, hu, retire_pc u, retire_branchState u, retire_branchTarget u⟩

end Sys2Proof.Proofs
end

section
/-! SUPPORT. Without `CU1` (R360): every word of the five floating-point opcodes, reserved ones included, is executed
behind the usability check of coprocessor 1; and what `Cause` holds after exception entry (R500 steps 2 and 3). -/

namespace Sys2Proof.Machine

variable {s : State} {w : Word32}

/-! ### Reading a field after an insertion -/

section InsertField

variable {n len lo : Nat}

theorem getLsbD_insertField {i : Nat} (v : BitVec len) (u : BitVec n) (hi : i < n) :
    (insertField lo v u).getLsbD i = if lo ≤ i ∧ i < lo + len then v.getLsbD (i - lo) else u.getLsbD i := by
  simp only [insertField, BitVec.getLsbD_or, BitVec.getLsbD_and, BitVec.getLsbD_not, BitVec.getLsbD_shiftLeft,
    BitVec.getLsbD_setWidth, BitVec.getLsbD_allOnes]
  by_cases hlo : lo ≤ i
  · have hin : i < lo + len ↔ i - lo < len := by omega
    by_cases hlen : i - lo < len
    · simp [hi, hlo, hin, hlen, show i - lo < n by omega, show ¬ i < lo by omega]
    · simp [hi, hin, hlen, BitVec.getLsbD_of_ge v (i - lo) (by omega)]
  · simp [hi, hlo, show i < lo by omega]

theorem extractLsb'_insertField_same (v : BitVec len) (u : BitVec n) (h : lo + len ≤ n) :
    (insertField lo v u).extractLsb' lo len = v := by
  apply BitVec.eq_of_getLsbD_eq
  intro i hi
  rw [BitVec.getLsbD_extractLsb', getLsbD_insertField v u (by omega)]
  simp [hi]

/-- A field above or below the inserted one keeps its value. -/
theorem extractLsb'_insertField_disjoint {lo' len' : Nat} (v : BitVec len) (u : BitVec n) (h : lo' + len' ≤ n)
    (hd : lo' + len' ≤ lo ∨ lo + len ≤ lo') :
    (insertField lo v u).extractLsb' lo' len' = u.extractLsb' lo' len' := by
  apply BitVec.eq_of_getLsbD_eq
  intro i hi
  rw [BitVec.getLsbD_extractLsb', BitVec.getLsbD_extractLsb', getLsbD_insertField v u (by omega),
    if_neg (by omega)]

end InsertField

/-! ### `Cause` after exception entry -/

@[simp] theorem raise_cause (e : Exc) (s : State) : (raise e s).cp0.cause = causeOnEntry e s := rfl

/-- `Cause.ExcCode`, bits 6:2 (R500 step 3). -/
theorem causeOnEntry_excCode (e : Exc) (s : State) : (causeOnEntry e s).extractLsb' 2 5 = excCode e := by
  unfold causeOnEntry
  rw [extractLsb'_insertField_disjoint _ _ (by decide) (by decide), extractLsb'_insertField_same _ _ (by decide)]

/-- `Cause.CE`, bits 29:28 (R500 step 3). -/
theorem causeOnEntry_coprocessor (e : Exc) (s : State) :
    (causeOnEntry e s).extractLsb' 28 2 = excCoprocessor e := by
  unfold causeOnEntry
  exact extractLsb'_insertField_same _ _ (by decide)

/-! ### Words behind the check of coprocessor 1 -/

theorem requireCp1_of_disabled {k : Result} (h : s.cp0.status.getLsbD 29 = false) :
    requireCp1 s k = .next (raise (.coprocessorUnusable 1) s) := by
  simp [requireCp1, coprocessorEnabled, statusBit, h, -BitVec.getLsbD_eq_getElem]

/-- The instruction does all that it does, operand reads and data accesses included, behind the check. -/
def BehindCp1Check (i : Instr) : Prop := ∀ s, ∃ k, exec i s = requireCp1 s k

/-- A decoded word that is executed behind the check: such an instruction, or a reserved encoding of COP1 (R151). -/
def DecodedBehindCp1Check : Decoded → Prop
  | .instr i => BehindCp1Check i
  | .reserved place => place = .cop1
  | .truncated => False

theorem executeWord_eq_requireCp1 (h : DecodedBehindCp1Check (decodeWord w)) (s : State) :
    ∃ k, executeWord w s = requireCp1 s k := by
  unfold executeWord
  cases hd : decodeWord w with
  | instr i =>
    rw [hd] at h
    exact h s
  | reserved place =>
    rw [hd] at h
    cases h
    exact ⟨_, rfl⟩
  | truncated =>
    rw [hd] at h
    exact h.elim

/-! ### The maps of COP1 (R148): each arm is such an instruction, and what no arm matches, the last
case, is reserved in COP1 -/

theorem decodeCop1Branch_behindCp1Check (w : Word32) : DecodedBehindCp1Check (decodeCop1Branch w) := by
  fun_cases decodeCop1Branch w <;> exact fun _ => ⟨_, rfl⟩

theorem decodeCop1S_behindCp1Check (w : Word32) : DecodedBehindCp1Check (decodeCop1S w) := by
  fun_cases decodeCop1S w
  on_goal -1 => rfl
  all_goals exact fun _ => ⟨_, rfl⟩

theorem decodeCop1D_behindCp1Check (w : Word32) : DecodedBehindCp1Check (decodeCop1D w) := by
  fun_cases decodeCop1D w
  on_goal -1 => rfl
  all_goals exact fun _ => ⟨_, rfl⟩

theorem decodeCop1W_behindCp1Check (w : Word32) : DecodedBehindCp1Check (decodeCop1W w) := by
  fun_cases decodeCop1W w
  on_goal -1 => rfl
  all_goals exact fun _ => ⟨_, rfl⟩

theorem decodeCop1L_behindCp1Check (w : Word32) : DecodedBehindCp1Check (decodeCop1L w) := by
  fun_cases decodeCop1L w
  on_goal -1 => rfl
  all_goals exact fun _ => ⟨_, rfl⟩

theorem decodeCop1_behindCp1Check (w : Word32) : DecodedBehindCp1Check (decodeCop1 w) := by
  fun_cases decodeCop1 w
  case case7 => exact decodeCop1Branch_behindCp1Check w
  case case8 => exact decodeCop1S_behindCp1Check w
  case case9 => exact decodeCop1D_behindCp1Check w
  case case10 => exact decodeCop1W_behindCp1Check w
  case case11 => exact decodeCop1L_behindCp1Check w
  case case12 => rfl
  all_goals exact fun _ => ⟨_, rfl⟩

/-! ### The five floating-point opcodes (R144) -/

theorem decodeWord_of_cop1 (h : opField w = 0x11) : decodeWord w = decodeCop1 w := by
  rw [decodeWord, h]; rfl

theorem decodeWord_of_lwc1 (h : opField w = 0x31) :
    decodeWord w = .instr (.lwc1 (rtField w) (immField w) (rsField w)) := by
  rw [decodeWord, h]; rfl

theorem decodeWord_of_ldc1 (h : opField w = 0x35) :
    decodeWord w = .instr (.ldc1 (rtField w) (immField w) (rsField w)) := by
  rw [decodeWord, h]; rfl

theorem decodeWord_of_swc1 (h : opField w = 0x39) :
    decodeWord w = .instr (.swc1 (rtField w) (immField w) (rsField w)) := by
  rw [decodeWord, h]; rfl

theorem decodeWord_of_sdc1 (h : opField w = 0x3D) :
    decodeWord w = .instr (.sdc1 (rtField w) (immField w) (rsField w)) := by
  rw [decodeWord, h]; rfl

/-- COP1 and the four floating-point loads and stores, whatever the other 26 bits are. -/
theorem decodeWord_behindCp1Check (h : opField w ∈ [0x11, 0x31, 0x35, 0x39, 0x3D]) :
    DecodedBehindCp1Check (decodeWord w) := by
  simp only [List.mem_cons, List.not_mem_nil, or_false] at h
  obtain hop | hop | hop | hop | hop := h
  · rw [decodeWord_of_cop1 hop]
    exact decodeCop1_behindCp1Check w
  · rw [decodeWord_of_lwc1 hop]
    exact fun _ => ⟨_, rfl⟩
  · rw [decodeWord_of_ldc1 hop]
    exact fun _ => ⟨_, rfl⟩
  · rw [decodeWord_of_swc1 hop]
    exact fun _ => ⟨_, rfl⟩
  · rw [decodeWord_of_sdc1 hop]
    exact fun _ => ⟨_, rfl⟩

end Sys2Proof.Machine

namespace Sys2Proof.Proofs

open Sys2Proof.Machine

/-- Settles O21: all that a word of a floating-point opcode does stands behind the check of coprocessor 1, which fails
without `CU1`; the two fields of `Cause` are those of any exception entry. -/
theorem unusableFloatingPointUnit : Obligations.UnusableFloatingPointUnit := by
  unfold Obligations.UnusableFloatingPointUnit
  intro w s hop hcu1
  obtain ⟨k, hk⟩ := executeWord_eq_requireCp1 (decodeWord_behindCp1Check hop) s
  rw [requireCp1_of_disabled hcu1] at hk
  refine ⟨_, hk, rfl, ?excCode, ?coprocessor⟩
  case excCode => rw [raise_cause, causeOnEntry_excCode, excCode]
  case coprocessor => rw [raise_cause, causeOnEntry_coprocessor, excCoprocessor]

end Sys2Proof.Proofs
end

section
/-! SUPPORT. What exception entry leaves alone (R503). -/

namespace Sys2Proof.Machine

/-! ### Status and Cause at entry -/

@[simp] theorem raise_status (e : Exc) (s : State) : (raise e s).cp0.status = s.cp0.status ||| 2#32 := rfl

/-- Entry sets `EXL`, bit 1 of Status, and no other bit (R500 step 4, R503). -/
theorem raise_status_getLsbD (e : Exc) (s : State) {k : Nat} (h : k ≠ 1) :
    (raise e s).cp0.status.getLsbD k = s.cp0.status.getLsbD k := by
  have hexl : (2#32).getLsbD k = false := by
    rw [show 2#32 = BitVec.twoPow 32 1 from rfl, BitVec.getLsbD_twoPow]
    simp [h.symm]
  rw [raise_status, BitVec.getLsbD_or, hexl, Bool.or_false]

/-- `Cause.IP`, bits 15:8, lies between the fields that entry writes. -/
theorem causeOnEntry_ip (e : Exc) (s : State) :
    (causeOnEntry e s).extractLsb' 8 8 = s.cp0.cause.extractLsb' 8 8 := by
  unfold causeOnEntry
  rw [extractLsb'_insertField_disjoint _ _ (by decide) (by decide),
    extractLsb'_insertField_disjoint _ _ (by decide) (by decide)]
  split
  · rfl
  · exact extractLsb'_insertField_disjoint _ _ (by decide) (by decide)

/-! ### The other registers -/

/-- Loading the fault registers reaches BadVAddr, Context, XContext and EntryHi alone (R504, R505, R506). -/
theorem loadFaultRegisters_rest (e : Exc) (c : Cp0) :
    { loadFaultRegisters e c with
      badVAddr := c.badVAddr, context := c.context, xContext := c.xContext, entryHi := c.entryHi } = c := by
  cases e <;> rfl

theorem onlyEntryState_raise (e : Exc) (s : State) : OnlyEntryState s (raise e s) := by
  simp [OnlyEntryState, HiLoSame, FprsSame, FpControlSame, SystemRestSame, LatchesSame, OutsideSame]

end Sys2Proof.Machine

namespace Sys2Proof.Proofs

open Sys2Proof.Machine

/-- Settles O10: `EXL` is the one bit of Status that entry sets, the fields it writes into Cause do not meet `IP`, and
beyond these and EPC it reaches the fault registers alone. -/
theorem exceptionEntryLeavesTheRest : Obligations.ExceptionEntryLeavesTheRest := by
  unfold Obligations.ExceptionEntryLeavesTheRest
  intro e s
  refine ⟨onlyEntryState_raise e s, fun k hk => raise_status_getLsbD e s hk, ?ip, ?registers⟩
  case ip => rw [raise_cause, causeOnEntry_ip]
  case registers =>
    exact congrArg (fun c => { c with epc := s.cp0.epc, cause := s.cp0.cause, status := s.cp0.status })
      (loadFaultRegisters_rest e s.cp0)

end Sys2Proof.Proofs
end

section
/-! SUPPORT. How the mode changes (R525): it is a function of Status; of all instructions only `ERET` and a move to
Status write Status otherwise than by an exception. -/

namespace Sys2Proof.Machine

variable {s t : State}

/-! ### The mode of a value of Status -/

/-- `Mode()` (R64) by the number in `KSU`, of a value of Status. -/
def modeOfStatus (status : Word32) : Option Mode :=
  if status.getLsbD 1 || status.getLsbD 2 then some .kernel
  else match status.toNat / 8 % 4 with
    | 0 => some .kernel
    | 1 => some .supervisor
    | 2 => some .user
    | _ => none

theorem mode_eq_modeOfStatus (s : State) : mode s = modeOfStatus s.cp0.status := by
  have hksu : (statusKsu s).toNat = s.cp0.status.toNat / 8 % 4 := by
    simp [statusKsu, BitVec.extractLsb'_toNat, Nat.shiftRight_eq_div_pow]
  rw [modeOfStatus, ← hksu]
  rfl

/-! ### The return from an exception -/

theorem and_not_twoPow_of_clear {n k : Nat} (x : BitVec n) (h : x.getLsbD k = false) :
    x &&& ~~~BitVec.twoPow n k = x := by
  apply BitVec.eq_of_getLsbD_eq
  intro i hi
  by_cases hik : i = k
  · rw [hik, BitVec.getLsbD_and, h, Bool.false_and]
  · simp [hi, hik]

/-- The return clears one level bit; where the other is clear already, both are clear after it (R470). -/
theorem returnFromException_status (h : (statusErl s = true ∧ statusExl s = false) ∨ statusErl s = false) :
    (returnFromException s).cp0.status = s.cp0.status &&& 0xFFFFFFF9#32 := by
  have hboth : 0xFFFFFFF9#32 = ~~~BitVec.twoPow 32 1 &&& ~~~BitVec.twoPow 32 2 := by decide
  rw [hboth]
  obtain ⟨herl, hexl⟩ | herl := h
  · rw [← BitVec.and_assoc, and_not_twoPow_of_clear _ hexl]
    simp only [returnFromException, herl]
    rfl
  · rw [BitVec.and_comm (~~~BitVec.twoPow 32 1), ← BitVec.and_assoc, and_not_twoPow_of_clear _ herl]
    simp only [returnFromException, herl]
    rfl

/-! ### Writes of the system-coprocessor registers -/

theorem lo32_sext32 (v : Word32) : lo32 (sext32 v) = v := by
  ext i hi
  rw [lo32, sext32, BitVec.getElem_setWidth, BitVec.getLsbD_signExtend]
  simp [hi, show i < 64 by omega]

theorem cp0Write_status (v : Word) (s : State) : (cp0Write 12 v s).cp0.status = lo32 v := rfl

theorem cp0Store_status_of_ne {n : Reg} (h : n ≠ 12) (v : Word) (c : Cp0) :
    (cp0Store n v c).status = c.status := by
  fun_cases cp0Store n v c
  case case9 hn => exact absurd (BitVec.eq_of_toNat_eq hn) h
  all_goals rfl

theorem cp0Write_status_of_ne {n : Reg} (h : n ≠ 12) (v : Word) (s : State) :
    (cp0Write n v s).cp0.status = s.cp0.status := by
  unfold cp0Write
  split
  · simp
  · split
    · rfl
    · exact cp0Store_status_of_ne h v s.cp0

@[simp] theorem readEntry_status (i : Nat) (s : State) : (readEntry i s).cp0.status = s.cp0.status := by
  unfold readEntry
  split <;> rfl

@[simp] theorem cp0Read_cp0 (n : Reg) (s : State) : (cp0Read n s).2.cp0 = s.cp0 := by
  unfold cp0Read
  split <;> rfl

/-! ### All that an instruction can do: take an exception, or complete as `P` says -/

/-- Where the instruction completes at all, it has taken an exception from `s` with nothing else changed (R509), or it
has reached a state with `P`. -/
def RaisesOr (P : State → Prop) (s : State) (r : Result) : Prop :=
  ∀ t, r = .next t → (∃ e, t = raise e s) ∨ P t

namespace RaisesOr

variable {P : State → Prop}

theorem next (h : P t) : RaisesOr P s (.next t) := by
  rintro _ ⟨⟩
  exact .inr h

theorem raise {e : Exc} : RaisesOr P s (.next (raise e s)) := by
  rintro _ ⟨⟩
  exact .inl ⟨e, rfl⟩

theorem ite {c : Prop} [Decidable c] {a b : Result} (ha : RaisesOr P s a) (hb : RaisesOr P s b) :
    RaisesOr P s (if c then a else b) := by
  split
  · exact ha
  · exact hb

theorem requireCp0 {k : Result} (h : RaisesOr P s k) : RaisesOr P s (requireCp0 s k) := ite h raise

theorem requireCp1 {k : Result} (h : RaisesOr P s k) : RaisesOr P s (requireCp1 s k) := ite h raise

theorem withAccess {α : Type} {a : Access α} {k : α → Result} (h : ∀ v, RaisesOr P s (k v)) :
    RaisesOr P s (withAccess a s k) := by
  intro t ht
  obtain ⟨v, -, hv⟩ | ⟨e, -, rfl⟩ := withAccess_next ht
  · exact h v t hv
  · exact .inl ⟨e, rfl⟩

end RaisesOr

/-! ### Instructions and Status -/

/-- Status is the same. -/
def StatusSame (s t : State) : Prop := t.cp0.status = s.cp0.status

/-- The instructions that write Status otherwise than by an exception: `ERET` and the moves to register 12. -/
def WritesStatus (i : Instr) : Prop := i = .eret ∨ (∃ rt, i = .mtc0 rt 12) ∨ ∃ rt, i = .dmtc0 rt 12

theorem raisesOr_statusSame_finishConditional (rt : Reg) (r : Option Memory) (s : State) :
    RaisesOr (StatusSame s) s (finishConditional rt r s) := by
  cases r <;> exact .next (by simp [StatusSame])

theorem exec_raisesOr_statusSame {i : Instr} (hi : ¬ WritesStatus i) (s : State) :
    RaisesOr (StatusSame s) s (exec i s) := by
  cases i
  -- general registers, `hi` and `lo`, jumps, and `SYNC`
  case sll | srl | sra | sllv | srlv | srav | dsll | dsrl | dsra | dsll32 | dsrl32 | dsra32 | dsllv | dsrlv | dsrav
      | addu | subu | daddu | dsubu | addiu | daddiu | and | or | xor | nor | andi | ori | xori | lui
      | slt | sltu | slti | sltiu | mfhi | mthi | mflo | mtlo | mult | multu | dmult | dmultu
      | div | divu | ddiv | ddivu | j | jal | jr | jalr | sync =>
    exact .next (by simp [StatusSame])
  -- additions and subtractions that trap on overflow
  case add | addi | sub | dadd | daddi | dsub => exact .ite .raise (.next (by simp [StatusSame]))
  -- conditional traps
  case tge | tgeu | tlt | tltu | teq | tne | tgei | tgeiu | tlti | tltiu | teqi | tnei =>
    exact .ite .raise (.next rfl)
  case syscall | brk => exact .raise
  case cop2 | lwc2 | ldc2 | swc2 | sdc2 => exact .ite .raise .raise
  -- branches: taken, or not taken
  case beq | bne | blez | bgtz | bltz | bgez | bltzal | bgezal
      | beql | bnel | blezl | bgtzl | bltzl | bgezl | bltzall | bgezall =>
    exact .ite (.next (by simp [StatusSame])) (.next (by simp [StatusSame]))
  -- loads and stores
  case lb | lbu | lh | lhu | lw | lwu | ld | lwl | lwr | ldl | ldr | ll | lld
      | sb | sh | sw | sd | swl | swr | sdl | sdr =>
    exact .withAccess fun _ => .next (by simp [StatusSame])
  case sc | scd => exact .withAccess fun r => raisesOr_statusSame_finishConditional _ r s
  -- the system coprocessor
  case eret => exact absurd (.inl rfl) hi
  case mtc0 rt rd =>
    exact .requireCp0 (.next (cp0Write_status_of_ne (fun h => hi (.inr (.inl ⟨rt, h ▸ rfl⟩))) _ s))
  case dmtc0 rt rd =>
    exact .requireCp0 (.next (cp0Write_status_of_ne (fun h => hi (.inr (.inr ⟨rt, h ▸ rfl⟩))) _ s))
  case mfc0 | dmfc0 | cfc0 | ctc0 | tlbr | tlbwi | tlbwr | tlbp | cache =>
    exact .requireCp0 (.next (by simp [StatusSame]))
  case bc0f | bc0t => exact .requireCp0 (.ite (.next (by simp [StatusSame])) (.next rfl))
  -- the floating-point unit
  case bc1f | bc1t | bc1fl | bc1tl =>
    exact .requireCp1 (.ite (.next (by simp [StatusSame])) (.next (by simp [StatusSame])))
  case movfS | movtS | movzS | movnS | movfD | movtD | movzD | movnD =>
    exact .requireCp1 (.ite (.next (by simp [StatusSame])) (.next rfl))
  case lwc1 | ldc1 | swc1 | sdc1 => exact .requireCp1 (.withAccess fun _ => .next (by simp [StatusSame]))
  -- what is left writes one register, control register or condition bit of it
  all_goals exact .requireCp1 (.next (by simp [StatusSame]))

/-- An instruction that changes the mode takes an exception, or writes Status itself. -/
theorem exec_mode_change {i : Instr} (h : exec i s = .next t) (hmode : mode t ≠ mode s) :
    (∃ e, t = raise e s) ∨ WritesStatus i := by
  by_cases hi : WritesStatus i
  · exact .inr hi
  · exact .inl ((exec_raisesOr_statusSame hi s t h).resolve_right fun hs => hmode (mode_congr hs))

/-- A step changes the mode only by an exception, or by an instruction that writes Status. -/
theorem step_mode_change (h : step s = .next t) (hmode : mode t ≠ mode s) :
    (∃ e, t = retire (raise e (beginStep s))) ∨
    ∃ w i u, fetchWord (beginStep s) = .ok w ∧ decodeWord w = .instr i ∧ exec i (beginStep s) = .next u ∧
      t = retire u ∧ WritesStatus i := by
  obtain hraise | ⟨w, i, u, hfetch, hdecode, hexec, rfl⟩ := step_next h
  · exact .inl hraise
  · rw [mode_retire, ← mode_beginStep s] at hmode
    obtain ⟨e, rfl⟩ | hi := exec_mode_change hexec hmode
    · exact .inl ⟨e, rfl⟩
    · exact .inr ⟨w, i, u, hfetch, hdecode, hexec, rfl, hi⟩

/-! ### The instructions that write Status -/

theorem exec_eret_of_usable (h : cp0Usable s = true) : exec .eret s = .next (returnFromException s) :=
  requireCp0_of_usable h

theorem exec_mtc0_of_usable (rt rd : Reg) (h : cp0Usable s = true) :
    exec (.mtc0 rt rd) s = .next (cp0Write rd (sext32 (lo32 (readGpr rt s))) s) :=
  requireCp0_of_usable h

theorem exec_dmtc0_of_usable (rt rd : Reg) (h : cp0Usable s = true) :
    exec (.dmtc0 rt rd) s = .next (cp0Write rd (readGpr rt s) s) :=
  requireCp0_of_usable h

theorem mode_cp0Write_status (v : Word) (s : State) : mode (cp0Write 12 v s) = modeOfStatus (lo32 v) := by
  rw [mode_eq_modeOfStatus, cp0Write_status]

end Sys2Proof.Machine

namespace Sys2Proof.Proofs

open Sys2Proof.Machine

/-- Settles O28: the mode is a function of Status, so each clause is about what Status becomes; the clauses that rule
out every other way rest on `exec_raisesOr_statusSame`, family by family of the instructions. -/
theorem modeTransitions : Obligations.ModeTransitions := by
  unfold Obligations.ModeTransitions
  refine ⟨by decide, fun s => ⟨mode_eq_modeOfStatus s, fun e => mode_raise e s⟩, ?eret, ?moves, ?instruction,
    fun s => ⟨mode_beginStep s, mode_retire s⟩, ?step⟩
  case eret =>
    intro s hcp0
    refine ⟨_, exec_eret_of_usable hcp0, fun hlevels => ?_⟩
    rw [mode_eq_modeOfStatus, returnFromException_status hlevels]
    rfl
  case moves =>
    intro s rt hcp0
    refine ⟨_, _, exec_mtc0_of_usable rt 12 hcp0, exec_dmtc0_of_usable rt 12 hcp0, ?_, mode_cp0Write_status _ s⟩
    rw [mode_cp0Write_status, lo32_sext32]
    rfl
  case instruction => exact fun _ _ _ => exec_mode_change
  case step => exact fun _ _ => step_mode_change

end Sys2Proof.Proofs
end

section
/-! SUPPORT. Decoding and encoding are inverse (R140 to R149): the named fields of every format's encoding, the
decoder's
way to the map of each major opcode, and what each map accepts. -/

namespace Sys2Proof

open Sys2Proof.Machine

variable {w : Word32}

/-! ### The named fields of each format -/

section Formats

variable (rs rt rd sa sub fmt ft fs fd : BitVec 5) (op funct : BitVec 6) (imm : Imm16) (cc : Nat)

@[simp] theorem opField_encodeR : opField (encodeR rs rt rd sa funct) = 0 := (encodeR_fields ..).1
@[simp] theorem rsField_encodeR : rsField (encodeR rs rt rd sa funct) = rs := (encodeR_fields ..).2.1
@[simp] theorem rtField_encodeR : rtField (encodeR rs rt rd sa funct) = rt := (encodeR_fields ..).2.2.1
@[simp] theorem rdField_encodeR : rdField (encodeR rs rt rd sa funct) = rd := (encodeR_fields ..).2.2.2.1
@[simp] theorem saField_encodeR : saField (encodeR rs rt rd sa funct) = sa := (encodeR_fields ..).2.2.2.2.1
@[simp] theorem functField_encodeR : functField (encodeR rs rt rd sa funct) = funct := (encodeR_fields ..).2.2.2.2.2

@[simp] theorem opField_encodeI : opField (encodeI op rs rt imm) = op := (encodeI_fields ..).1
@[simp] theorem rsField_encodeI : rsField (encodeI op rs rt imm) = rs := (encodeI_fields ..).2.1
@[simp] theorem rtField_encodeI : rtField (encodeI op rs rt imm) = rt := (encodeI_fields ..).2.2.1
@[simp] theorem immField_encodeI : immField (encodeI op rs rt imm) = imm := (encodeI_fields ..).2.2.2

@[simp] theorem opField_encodeJ (target : BitVec 26) : opField (encodeJ op target) = op := (encodeJ_fields ..).1
@[simp] theorem targetField_encodeJ (target : BitVec 26) : targetField (encodeJ op target) = target :=
  (encodeJ_fields ..).2

@[simp] theorem opField_encodeCM : opField (encodeCM op sub rt rd) = op := (encodeCM_fields ..).1
@[simp] theorem rsField_encodeCM : rsField (encodeCM op sub rt rd) = sub := (encodeCM_fields ..).2.1
@[simp] theorem rtField_encodeCM : rtField (encodeCM op sub rt rd) = rt := (encodeCM_fields ..).2.2.1
@[simp] theorem rdField_encodeCM : rdField (encodeCM op sub rt rd) = rd := (encodeCM_fields ..).2.2.2

@[simp] theorem opField_encodeCB (ndtf : BitVec 2) : opField (encodeCB cc ndtf imm) = 0x11 := (encodeCB_fields ..).1
@[simp] theorem rsField_encodeCB (ndtf : BitVec 2) : rsField (encodeCB cc ndtf imm) = 0x08 := (encodeCB_fields ..).2.1
@[simp] theorem ccField_encodeCB (ndtf : BitVec 2) : ccField (encodeCB cc ndtf imm) = BitVec.ofNat 3 cc :=
  (encodeCB_fields ..).2.2.1
@[simp] theorem ndtfField_encodeCB (ndtf : BitVec 2) : field (encodeCB cc ndtf imm) 16 2 = ndtf :=
  (encodeCB_fields ..).2.2.2.1
@[simp] theorem immField_encodeCB (ndtf : BitVec 2) : immField (encodeCB cc ndtf imm) = imm :=
  (encodeCB_fields ..).2.2.2.2

@[simp] theorem opField_encodeC0 : opField (encodeC0 funct) = 0x10 := (encodeC0_fields ..).1
@[simp] theorem functField_encodeC0 : functField (encodeC0 funct) = funct := (encodeC0_fields ..).2.2

/-- Bit 25 makes a COP0 word an operation, whatever the bits below it are (R147). -/
@[simp] theorem rsField_encodeC0 : rsField (encodeC0 funct) = 0x10 := by
  simp [rsField, encodeC0, field_or, field_place_below, field_place_above]
  decide

@[simp] theorem opField_encodeFR : opField (encodeFR fmt ft fs fd funct) = 0x11 := (encodeFR_fields ..).1
@[simp] theorem rsField_encodeFR : rsField (encodeFR fmt ft fs fd funct) = fmt := (encodeFR_fields ..).2.1
@[simp] theorem rtField_encodeFR : rtField (encodeFR fmt ft fs fd funct) = ft := (encodeFR_fields ..).2.2.1
@[simp] theorem rdField_encodeFR : rdField (encodeFR fmt ft fs fd funct) = fs := (encodeFR_fields ..).2.2.2.1
@[simp] theorem saField_encodeFR : saField (encodeFR fmt ft fs fd funct) = fd := (encodeFR_fields ..).2.2.2.2.1
@[simp] theorem functField_encodeFR : functField (encodeFR fmt ft fs fd funct) = funct :=
  (encodeFR_fields ..).2.2.2.2.2

@[simp] theorem opField_encodeFC : opField (encodeFC fmt ft fs cc funct) = 0x11 := (encodeFC_fields ..).1
@[simp] theorem rsField_encodeFC : rsField (encodeFC fmt ft fs cc funct) = fmt := (encodeFC_fields ..).2.1
@[simp] theorem rtField_encodeFC : rtField (encodeFC fmt ft fs cc funct) = ft := (encodeFC_fields ..).2.2.1
@[simp] theorem rdField_encodeFC : rdField (encodeFC fmt ft fs cc funct) = fs := (encodeFC_fields ..).2.2.2.1
@[simp] theorem compareCcField_encodeFC : compareCcField (encodeFC fmt ft fs cc funct) = BitVec.ofNat 3 cc :=
  (encodeFC_fields ..).2.2.2.2.1
@[simp] theorem functField_encodeFC : functField (encodeFC fmt ft fs cc funct) = funct :=
  (encodeFC_fields ..).2.2.2.2.2

@[simp] theorem opField_encodeFM (tf : BitVec 1) : opField (encodeFM fmt cc tf fs fd) = 0x11 := (encodeFM_fields ..).1
@[simp] theorem rsField_encodeFM (tf : BitVec 1) : rsField (encodeFM fmt cc tf fs fd) = fmt :=
  (encodeFM_fields ..).2.1
@[simp] theorem ccField_encodeFM (tf : BitVec 1) : ccField (encodeFM fmt cc tf fs fd) = BitVec.ofNat 3 cc :=
  (encodeFM_fields ..).2.2.1
@[simp] theorem tfField_encodeFM (tf : BitVec 1) : field (encodeFM fmt cc tf fs fd) 16 1 = tf :=
  (encodeFM_fields ..).2.2.2.1
@[simp] theorem rdField_encodeFM (tf : BitVec 1) : rdField (encodeFM fmt cc tf fs fd) = fs :=
  (encodeFM_fields ..).2.2.2.2.1
@[simp] theorem saField_encodeFM (tf : BitVec 1) : saField (encodeFM fmt cc tf fs fd) = fd :=
  (encodeFM_fields ..).2.2.2.2.2.1
@[simp] theorem functField_encodeFM (tf : BitVec 1) : functField (encodeFM fmt cc tf fs fd) = 0x11 :=
  (encodeFM_fields ..).2.2.2.2.2.2

end Formats

section Codes

variable (rs rt : Reg) (funct : BitVec 6)

@[simp] theorem opField_encodeTrap (code : BitVec 10) :
    opField (encodeCode (place 21 rs ||| place 16 rt) code funct) = 0 := (encodeTrap_fields ..).1
@[simp] theorem rsField_encodeTrap (code : BitVec 10) :
    rsField (encodeCode (place 21 rs ||| place 16 rt) code funct) = rs := (encodeTrap_fields ..).2.1
@[simp] theorem rtField_encodeTrap (code : BitVec 10) :
    rtField (encodeCode (place 21 rs ||| place 16 rt) code funct) = rt := (encodeTrap_fields ..).2.2.1
@[simp] theorem codeField_encodeTrap (code : BitVec 10) :
    field (encodeCode (place 21 rs ||| place 16 rt) code funct) 6 10 = code := (encodeTrap_fields ..).2.2.2.1
@[simp] theorem functField_encodeTrap (code : BitVec 10) :
    functField (encodeCode (place 21 rs ||| place 16 rt) code funct) = funct := (encodeTrap_fields ..).2.2.2.2

@[simp] theorem opField_encodeCode (code : BitVec 20) : opField (encodeCode 0#32 code funct) = 0 :=
  (encodeCode_fields ..).1
@[simp] theorem codeField_encodeCode (code : BitVec 20) : field (encodeCode 0#32 code funct) 6 20 = code :=
  (encodeCode_fields ..).2.1
@[simp] theorem functField_encodeCode (code : BitVec 20) : functField (encodeCode 0#32 code funct) = funct :=
  (encodeCode_fields ..).2.2

end Codes

/-! ### The second-level maps (R144) -/

theorem decodeWord_of_special (h : opField w = 0) : decodeWord w = decodeSpecial w := by
  rw [decodeWord, h]; rfl

theorem decodeWord_of_regimm (h : opField w = 1) : decodeWord w = decodeRegimm w := by
  rw [decodeWord, h]; rfl

theorem decodeWord_of_cop0 (h : opField w = 0x10) : decodeWord w = decodeCop0 w := by
  rw [decodeWord, h]; rfl

theorem decodeWord_of_single (h : opField w = 0x11) (hfmt : rsField w = 0x10) : decodeWord w = decodeCop1S w := by
  rw [decodeWord_of_cop1 h, decodeCop1, hfmt]; rfl

theorem decodeWord_of_double (h : opField w = 0x11) (hfmt : rsField w = 0x11) : decodeWord w = decodeCop1D w := by
  rw [decodeWord_of_cop1 h, decodeCop1, hfmt]; rfl

/-! ### Decoding an encoding -/

/-- A shift amount within its range survives its 5-bit field (R143). -/
theorem toNat_shiftAmount {sa : Nat} (h : shiftAmountOk sa = true) : (BitVec.ofNat 5 sa).toNat = sa := by
  simp only [shiftAmountOk, decide_eq_true_eq] at h
  simp [Nat.mod_eq_of_lt h]

/-- A condition number within its range survives its 3-bit field (R142). -/
theorem toNat_condition {cc : Nat} (h : conditionOk cc = true) : (BitVec.ofNat 3 cc).toNat = cc := by
  simp only [conditionOk, decide_eq_true_eq] at h
  simp [Nat.mod_eq_of_lt h]

/-- The decoder reads the primary opcode, then the key fields of the map it names, then the operands: format by format,
each is where the encoding put it. -/
theorem decodeWord_encode {i : Instr} (h : i.wellFormed = true) : decodeWord (encode i) = .instr i := by
  cases i
  -- SPECIAL: shifts by a constant, registers, code fields
  case sll | srl | sra | dsll | dsrl | dsra | dsll32 | dsrl32 | dsra32 =>
    rw [encode, decodeWord_of_special (opField_encodeR ..), decodeSpecial, functField_encodeR, rtField_encodeR,
      rdField_encodeR, saField_encodeR, toNat_shiftAmount h]
    rfl
  case sllv | srlv | srav | jr | jalr | sync | mfhi | mthi | mflo | mtlo | dsllv | dsrlv | dsrav | mult | multu | div
      | divu | dmult | dmultu | ddiv | ddivu | add | addu | sub | subu | and | or | xor | nor | slt | sltu | dadd
      | daddu | dsub | dsubu =>
    rw [encode, decodeWord_of_special (opField_encodeR ..), decodeSpecial, functField_encodeR, rsField_encodeR,
      rtField_encodeR, rdField_encodeR, saField_encodeR]
    rfl
  case tge | tgeu | tlt | tltu | teq | tne =>
    rw [encode, decodeWord_of_special (opField_encodeTrap ..), decodeSpecial, functField_encodeTrap,
      rsField_encodeTrap, rtField_encodeTrap, codeField_encodeTrap]
    rfl
  case syscall | brk =>
    rw [encode, decodeWord_of_special (by simp)]
    simp [decodeSpecial]
  case bltz | bgez | bltzl | bgezl | tgei | tgeiu | tlti | tltiu | teqi | tnei | bltzal | bgezal | bltzall
      | bgezall =>
    rw [encode, decodeWord_of_regimm (by simp)]
    simp [decodeRegimm]
  -- COP0
  case mfc0 | dmfc0 | cfc0 | mtc0 | dmtc0 | ctc0 =>
    rw [encode, decodeWord_of_cop0 (by simp)]
    simp [decodeCop0]
  case bc0f | bc0t =>
    rw [encode, decodeWord_of_cop0 (by simp)]
    simp [decodeCop0, decodeCop0Branch]
  case tlbr | tlbwi | tlbwr | tlbp | eret =>
    rw [encode, decodeWord_of_cop0 (by simp)]
    simp [decodeCop0, decodeCop0Operation]
  -- COP1: moves, branches, then the formats S, D, W and L
  case mfc1 | dmfc1 | cfc1 | mtc1 | dmtc1 | ctc1 =>
    rw [encode, decodeWord_of_cop1 (by simp)]
    simp [decodeCop1]
  case bc1f | bc1t | bc1fl | bc1tl =>
    rw [encode, decodeWord_of_cop1 (by simp)]
    simp [decodeCop1, decodeCop1Branch, -BitVec.toNat_ofNat, toNat_condition h]
  case movfS | movtS =>
    rw [encode, decodeWord_of_single (by simp) (by simp)]
    simp [decodeCop1S, -BitVec.toNat_ofNat, toNat_condition h]
  case movfD | movtD =>
    rw [encode, decodeWord_of_double (by simp) (by simp)]
    simp [decodeCop1D, -BitVec.toNat_ofNat, toNat_condition h]
  case cFS | cUnS | cEqS | cUeqS | cOltS | cUltS | cOleS | cUleS | cSfS | cNgleS | cSeqS | cNglS | cLtS | cNgeS | cLeS
      | cNgtS =>
    rw [encode, decodeWord_of_single (opField_encodeFC ..) (rsField_encodeFC ..), decodeCop1S, functField_encodeFC,
      compareCcField_encodeFC, toNat_condition h, rdField_encodeFC, rtField_encodeFC]
    rfl
  case cFD | cUnD | cEqD | cUeqD | cOltD | cUltD | cOleD | cUleD | cSfD | cNgleD | cSeqD | cNglD | cLtD | cNgeD | cLeD
      | cNgtD =>
    rw [encode, decodeWord_of_double (opField_encodeFC ..) (rsField_encodeFC ..), decodeCop1D, functField_encodeFC,
      compareCcField_encodeFC, toNat_condition h, rdField_encodeFC, rtField_encodeFC]
    rfl
  case addS | subS | mulS | divS | sqrtS | absS | movS | negS | roundLS | truncLS | ceilLS | floorLS | roundWS | truncWS
      | ceilWS | floorWS | movzS | movnS | recipS | rsqrtS | cvtDS | cvtWS | cvtLS =>
    rw [encode, decodeWord_of_single (opField_encodeFR ..) (rsField_encodeFR ..), decodeCop1S, functField_encodeFR,
      saField_encodeFR, rdField_encodeFR, rtField_encodeFR]
    rfl
  case addD | subD | mulD | divD | sqrtD | absD | movD | negD | roundLD | truncLD | ceilLD | floorLD | roundWD | truncWD
      | ceilWD | floorWD | movzD | movnD | recipD | rsqrtD | cvtSD | cvtWD | cvtLD =>
    rw [encode, decodeWord_of_double (opField_encodeFR ..) (rsField_encodeFR ..), decodeCop1D, functField_encodeFR,
      saField_encodeFR, rdField_encodeFR, rtField_encodeFR]
    rfl
  case cvtSW | cvtDW =>
    rw [encode, decodeWord_of_cop1 (by simp)]
    simp [decodeCop1, decodeCop1W]
  case cvtSL | cvtDL =>
    rw [encode, decodeWord_of_cop1 (by simp)]
    simp [decodeCop1, decodeCop1L]
  -- the primary map: format J, and format I
  case j | jal | cop2 => rw [encode, decodeWord, opField_encodeJ, targetField_encodeJ]; rfl
  all_goals rw [encode, decodeWord, opField_encodeI, rsField_encodeI, rtField_encodeI, immField_encodeI]; rfl

end Sys2Proof

namespace Sys2Proof.Proofs

open Sys2Proof.Machine

/-- Settles O1: format by format, `decodeWord_encode`. -/
theorem decodingInvertsEncoding : Obligations.DecodingInvertsEncoding := by
  unfold Obligations.DecodingInvertsEncoding
  exact fun _ => decodeWord_encode

end Sys2Proof.Proofs
end

section
/-! SUPPORT. What the decoder accepts is well-formed (R140 to R149), and which words are reserved (R150). -/

namespace Sys2Proof

open Sys2Proof.Machine

variable {w : Word32}

/-! ### Whatever is decoded is well-formed -/

/-- The outcome of decoding a whole word: a well-formed instruction or a reserved encoding, never too few bytes. -/
def DecodedWellFormed : Decoded → Prop
  | .instr i => i.wellFormed = true
  | .reserved _ => True
  | .truncated => False

theorem shiftAmountOk_toNat (sa : BitVec 5) : shiftAmountOk sa.toNat = true := decide_eq_true sa.isLt

theorem conditionOk_toNat (cc : BitVec 3) : conditionOk cc.toNat = true := decide_eq_true cc.isLt

theorem decodeSpecial_wellFormed (w : Word32) : DecodedWellFormed (decodeSpecial w) := by
  fun_cases decodeSpecial w
  case case1 | case2 | case3 | case47 | case48 | case49 | case50 | case51 | case52 => exact shiftAmountOk_toNat _
  case case53 => trivial
  all_goals rfl

theorem decodeRegimm_wellFormed (w : Word32) : DecodedWellFormed (decodeRegimm w) := by
  fun_cases decodeRegimm w
  on_goal -1 => trivial
  all_goals rfl

theorem decodeCop0Operation_wellFormed (w : Word32) : DecodedWellFormed (decodeCop0Operation w) := by
  fun_cases decodeCop0Operation w
  on_goal -1 => trivial
  all_goals rfl

theorem decodeCop0Branch_wellFormed (w : Word32) : DecodedWellFormed (decodeCop0Branch w) := by
  fun_cases decodeCop0Branch w
  on_goal -1 => trivial
  all_goals rfl

theorem decodeCop0_wellFormed (w : Word32) : DecodedWellFormed (decodeCop0 w) := by
  fun_cases decodeCop0 w
  case case7 => exact decodeCop0Branch_wellFormed w
  case case8 => exact decodeCop0Operation_wellFormed w
  case case9 => trivial
  all_goals rfl

theorem decodeCop1Branch_wellFormed (w : Word32) : DecodedWellFormed (decodeCop1Branch w) := by
  fun_cases decodeCop1Branch w <;> exact conditionOk_toNat _

theorem decodeCop1S_wellFormed (w : Word32) : DecodedWellFormed (decodeCop1S w) := by
  fun_cases decodeCop1S w
  on_goal -1 => trivial
  case case17 | case18 | case26 | case27 | case28 | case29 | case30 | case31 | case32 | case33 | case34 | case35
      | case36 | case37 | case38 | case39 | case40 | case41 =>
    exact conditionOk_toNat _
  all_goals rfl

theorem decodeCop1D_wellFormed (w : Word32) : DecodedWellFormed (decodeCop1D w) := by
  fun_cases decodeCop1D w
  on_goal -1 => trivial
  case case17 | case18 | case26 | case27 | case28 | case29 | case30 | case31 | case32 | case33 | case34 | case35
      | case36 | case37 | case38 | case39 | case40 | case41 =>
    exact conditionOk_toNat _
  all_goals rfl

theorem decodeCop1_wellFormed (w : Word32) : DecodedWellFormed (decodeCop1 w) := by
  fun_cases decodeCop1 w
  case case7 => exact decodeCop1Branch_wellFormed w
  case case8 => exact decodeCop1S_wellFormed w
  case case9 => exact decodeCop1D_wellFormed w
  case case10 => unfold decodeCop1W; split <;> trivial
  case case11 => unfold decodeCop1L; split <;> trivial
  case case12 => trivial
  all_goals rfl

theorem decodeWord_wellFormed (w : Word32) : DecodedWellFormed (decodeWord w) := by
  fun_cases decodeWord w
  case case1 => exact decodeSpecial_wellFormed w
  case case2 => exact decodeRegimm_wellFormed w
  case case3 => exact decodeCop0_wellFormed w
  case case4 => exact decodeCop1_wellFormed w
  on_goal -1 => trivial
  all_goals rfl

theorem wellFormed_of_decodeWord {i : Instr} (h : decodeWord w = .instr i) : i.wellFormed = true := by
  have hw := decodeWord_wellFormed w
  rwa [h] at hw

theorem decodeWord_ne_truncated (w : Word32) : decodeWord w ≠ .truncated := by
  intro h
  have hw := decodeWord_wellFormed w
  rwa [h] at hw

/-! ### Which words are reserved -/

/-- Field values are compared as the numbers by which the maps list them. -/
theorem mem_iff_toNat_mem {n : Nat} (v : BitVec n) (l : List (BitVec n)) : v ∈ l ↔ v.toNat ∈ l.map BitVec.toNat :=
  (List.mem_map_of_injective fun _ _ => BitVec.eq_of_toNat_eq).symm

theorem decodeSpecial_reserved_iff : decodeSpecial w = .reserved .special ↔
    functField w ∈ [0x01, 0x05, 0x0A, 0x0B, 0x0E, 0x15, 0x28, 0x29, 0x35, 0x37, 0x39, 0x3D] := by
  rw [mem_iff_toNat_mem]
  fun_cases decodeSpecial w
  on_goal -1 =>
    have := (functField w).isLt
    simp only [imp_false] at *
    simp
    omega
  all_goals simp [*]

theorem decodeRegimm_reserved_iff : decodeRegimm w = .reserved .regimm ↔
    (rtField w).toNat ∈ [0x04, 0x05, 0x06, 0x07, 0x0D, 0x0F] ∨ 0x14 ≤ (rtField w).toNat := by
  fun_cases decodeRegimm w
  on_goal -1 =>
    simp only [imp_false] at *
    simp
    omega
  all_goals simp [*]

theorem decodeCop0Operation_reserved_iff : decodeCop0Operation w = .reserved .cop0 ↔
    functField w ∉ [0x01, 0x02, 0x06, 0x08, 0x18] := by
  rw [mem_iff_toNat_mem]
  fun_cases decodeCop0Operation w
  on_goal -1 =>
    simp only [imp_false] at *
    simp [*]
  all_goals simp [*]

theorem decodeCop0Branch_reserved_iff : decodeCop0Branch w = .reserved .cop0 ↔ 2 ≤ (rtField w).toNat := by
  fun_cases decodeCop0Branch w
  on_goal -1 =>
    simp only [imp_false] at *
    simp
    omega
  all_goals simp [*]

theorem decodeCop0_reserved_iff : decodeCop0 w = .reserved .cop0 ↔
    rsField w ∈ [0x03, 0x07, 0x09, 0x0A, 0x0B, 0x0C, 0x0D, 0x0E, 0x0F] ∨
    (rsField w = 0x08 ∧ 2 ≤ (rtField w).toNat) ∨
    (0x10 ≤ (rsField w).toNat ∧ functField w ∉ [0x01, 0x02, 0x06, 0x08, 0x18]) := by
  rw [mem_iff_toNat_mem, ← BitVec.toNat_inj]
  fun_cases decodeCop0 w
  case case7 h => simp [h, decodeCop0Branch_reserved_iff]
  case case8 h =>
    rw [decodeCop0Operation_reserved_iff]
    refine ⟨fun hf => .inr (.inr ⟨h, hf⟩), ?_⟩
    rintro (hl | ⟨h8, -⟩ | ⟨-, hf⟩)
    · simp at hl
      omega
    · simp at h8
      omega
    · exact hf
  case case9 =>
    simp only [imp_false] at *
    simp
    omega
  all_goals simp [*]

/-- The reserved functions of formats S and D but the one conversion that only the other format has. -/
def ReservedFunction (funct : Nat) : Prop :=
  funct ∈ [0x10, 0x14, 0x22, 0x23] ∨ (0x17 ≤ funct ∧ funct ≤ 0x1F) ∨ (0x26 ≤ funct ∧ funct ≤ 0x2F)

theorem decodeCop1S_reserved_iff : decodeCop1S w = .reserved .cop1 ↔
    ReservedFunction (functField w).toNat ∨ (functField w).toNat = 0x20 := by
  unfold ReservedFunction
  fun_cases decodeCop1S w
  on_goal -1 =>
    have := (functField w).isLt
    simp only [imp_false] at *
    simp
    omega
  all_goals simp [*]

theorem decodeCop1D_reserved_iff : decodeCop1D w = .reserved .cop1 ↔
    ReservedFunction (functField w).toNat ∨ (functField w).toNat = 0x21 := by
  unfold ReservedFunction
  fun_cases decodeCop1D w
  on_goal -1 =>
    have := (functField w).isLt
    simp only [imp_false] at *
    simp
    omega
  all_goals simp [*]

theorem decodeCop1W_reserved_iff : decodeCop1W w = .reserved .cop1 ↔ (functField w).toNat ∉ [0x20, 0x21] := by
  fun_cases decodeCop1W w
  on_goal -1 =>
    simp only [imp_false] at *
    simp [*]
  all_goals simp [*]

theorem decodeCop1L_reserved_iff : decodeCop1L w = .reserved .cop1 ↔ (functField w).toNat ∉ [0x20, 0x21] := by
  fun_cases decodeCop1L w
  on_goal -1 =>
    simp only [imp_false] at *
    simp [*]
  all_goals simp [*]

theorem decodeCop1Branch_ne_reserved (place : ReservedIn) : decodeCop1Branch w ≠ .reserved place := by
  fun_cases decodeCop1Branch w <;> simp

theorem decodeCop1_reserved_iff : decodeCop1 w = .reserved .cop1 ↔
    rsField w ∈ [0x03, 0x07, 0x09, 0x0A, 0x0B, 0x0C, 0x0D, 0x0E, 0x0F, 0x12, 0x13] ∨ 0x16 ≤ (rsField w).toNat ∨
    (rsField w ∈ [0x10, 0x11] ∧ ReservedFunction (functField w).toNat) ∨
    (rsField w = 0x10 ∧ (functField w).toNat = 0x20) ∨ (rsField w = 0x11 ∧ (functField w).toNat = 0x21) ∨
    (rsField w ∈ [0x14, 0x15] ∧ (functField w).toNat ∉ [0x20, 0x21]) := by
  simp only [mem_iff_toNat_mem (rsField w), ← BitVec.toNat_inj (x := rsField w)]
  fun_cases decodeCop1 w
  case case7 h => simp [h, decodeCop1Branch_ne_reserved]
  case case8 h => simp [h, decodeCop1S_reserved_iff]
  case case9 h => simp [h, decodeCop1D_reserved_iff]
  case case10 h => simp [h, decodeCop1W_reserved_iff]
  case case11 h => simp [h, decodeCop1L_reserved_iff]
  case case12 =>
    have := (rsField w).isLt
    simp only [imp_false] at *
    simp
    omega
  all_goals simp [*]

/-! ### The map that rejected a word -/

variable {p : ReservedIn}

theorem place_of_decodeSpecial (h : decodeSpecial w = .reserved p) : p = .special := by
  revert h
  fun_cases decodeSpecial w
  on_goal -1 => rintro ⟨⟩; rfl
  all_goals simp

theorem place_of_decodeRegimm (h : decodeRegimm w = .reserved p) : p = .regimm := by
  revert h
  fun_cases decodeRegimm w
  on_goal -1 => rintro ⟨⟩; rfl
  all_goals simp

theorem place_of_decodeCop0 (h : decodeCop0 w = .reserved p) : p = .cop0 := by
  revert h
  fun_cases decodeCop0 w
  case case7 =>
    fun_cases decodeCop0Branch w
    on_goal -1 => rintro ⟨⟩; rfl
    all_goals simp
  case case8 =>
    fun_cases decodeCop0Operation w
    on_goal -1 => rintro ⟨⟩; rfl
    all_goals simp
  case case9 => rintro ⟨⟩; rfl
  all_goals simp

/-- Every word of COP1 stands behind the check of coprocessor 1, and so does a reserved one. -/
theorem place_of_decodeCop1 (h : decodeCop1 w = .reserved p) : p = .cop1 := by
  have hb := decodeCop1_behindCp1Check w
  rwa [h] at hb

theorem decodeSpecial_ne_reserved (h : p ≠ .special) : decodeSpecial w ≠ .reserved p := mt place_of_decodeSpecial h

theorem decodeRegimm_ne_reserved (h : p ≠ .regimm) : decodeRegimm w ≠ .reserved p := mt place_of_decodeRegimm h

theorem decodeCop0_ne_reserved (h : p ≠ .cop0) : decodeCop0 w ≠ .reserved p := mt place_of_decodeCop0 h

theorem decodeCop1_ne_reserved (h : p ≠ .cop1) : decodeCop1 w ≠ .reserved p := mt place_of_decodeCop1 h

/-- A word is reserved by the map that its primary opcode names, or by the primary map itself (R144, R150). -/
theorem decodeWord_reserved_iff : decodeWord w = .reserved p ↔
    (opField w = 0 ∧ decodeSpecial w = .reserved p) ∨ (opField w = 1 ∧ decodeRegimm w = .reserved p) ∨
    (opField w = 0x10 ∧ decodeCop0 w = .reserved p) ∨ (opField w = 0x11 ∧ decodeCop1 w = .reserved p) ∨
    (opField w ∈ [0x13, 0x1C, 0x1D, 0x1E, 0x1F, 0x33, 0x3B] ∧ p = .primary) := by
  simp only [mem_iff_toNat_mem, ← BitVec.toNat_inj (x := opField w)]
  fun_cases decodeWord w
  on_goal -1 =>
    simp only [imp_false] at *
    have hop : (opField w).toNat ∈ [0x13, 0x1C, 0x1D, 0x1E, 0x1F, 0x33, 0x3B] := by
      have := (opField w).isLt
      simp
      omega
    simp_all [eq_comm]
  all_goals simp [*]

end Sys2Proof

namespace Sys2Proof.Machine

variable {s : State} {w : Word32}

/-! ### Words behind the check of coprocessor 0 (R451) -/

theorem cp0Usable_eq_false (hmode : mode s ≠ some .kernel) (hcu0 : s.cp0.status.getLsbD 28 = false) :
    cp0Usable s = false := by
  simp only [cp0Usable, statusBit, hmode, hcu0, decide_false, Bool.or_self]

theorem requireCp0_of_unusable {k : Result} (h : cp0Usable s = false) :
    requireCp0 s k = .next (raise (.coprocessorUnusable 0) s) := by
  simp [requireCp0, h]

/-- The instruction does all that it does behind the check. -/
def BehindCp0Check (i : Instr) : Prop := ∀ s, ∃ k, exec i s = requireCp0 s k

/-- A decoded word that is executed behind the check: such an instruction, or a reserved encoding of COP0 (R151). -/
def DecodedBehindCp0Check : Decoded → Prop
  | .instr i => BehindCp0Check i
  | .reserved place => place = .cop0
  | .truncated => False

theorem executeWord_eq_requireCp0 (h : DecodedBehindCp0Check (decodeWord w)) (s : State) :
    ∃ k, executeWord w s = requireCp0 s k := by
  unfold executeWord
  cases hd : decodeWord w with
  | instr i =>
    rw [hd] at h
    exact h s
  | reserved place =>
    rw [hd] at h
    cases h
    exact ⟨_, rfl⟩
  | truncated =>
    rw [hd] at h
    exact h.elim

theorem decodeCop0_behindCp0Check (w : Word32) : DecodedBehindCp0Check (decodeCop0 w) := by
  fun_cases decodeCop0 w
  case case7 =>
    fun_cases decodeCop0Branch w
    on_goal -1 => rfl
    all_goals exact fun _ => ⟨_, rfl⟩
  case case8 =>
    fun_cases decodeCop0Operation w
    on_goal -1 => rfl
    all_goals exact fun _ => ⟨_, rfl⟩
  case case9 => rfl
  all_goals exact fun _ => ⟨_, rfl⟩

/-- COP0 and `CACHE`, whatever the other 26 bits are. -/
theorem decodeWord_behindCp0Check (h : opField w ∈ [0x10, 0x2F]) : DecodedBehindCp0Check (decodeWord w) := by
  simp only [List.mem_cons, List.not_mem_nil, or_false] at h
  obtain hop | hop := h
  · rw [decodeWord_of_cop0 hop]
    exact decodeCop0_behindCp0Check w
  · have hcache : decodeWord w = .instr (.cache (rtField w) (immField w) (rsField w)) := by rw [decodeWord, hop]; rfl
    rw [hcache]
    exact fun _ => ⟨_, rfl⟩

/-! ### The coprocessor 2 opcodes (R346) -/

theorem coprocessor2Fault_eq (s : State) : coprocessor2Fault s = .next (raise
    (if s.cp0.status.getLsbD 30 then .reservedInstruction else .coprocessorUnusable 2) s) := by
  have henabled : coprocessorEnabled s 2 = s.cp0.status.getLsbD 30 := rfl
  rw [coprocessor2Fault, henabled]
  split <;> rfl

theorem executeWord_of_coprocessor2 (h : opField w ∈ [0x12, 0x32, 0x36, 0x3A, 0x3E]) (s : State) :
    executeWord w s = coprocessor2Fault s := by
  simp only [List.mem_cons, List.not_mem_nil, or_false] at h
  obtain hop | hop | hop | hop | hop := h <;> rw [executeWord, decodeWord, hop] <;> rfl

/-! ### Reserved words, once their coprocessor is usable (R151, R347) -/

theorem executeWord_of_reserved {p : ReservedIn} (h : decodeWord w = .reserved p)
    (hcp0 : p = .cop0 → cp0Usable s = true) (hcp1 : p = .cop1 → s.cp0.status.getLsbD 29 = true) :
    executeWord w s = .next (raise .reservedInstruction s) := by
  rw [executeWord, h]
  cases p with
  | cop0 => exact requireCp0_of_usable (hcp0 rfl)
  | cop1 => exact requireCp1_of_enabled (hcp1 rfl)
  | primary => rfl
  | special => rfl
  | regimm => rfl

end Sys2Proof.Machine

namespace Sys2Proof.Proofs

open Sys2Proof.Machine

/-- Settles O2: the maps build well-formed instructions alone; that the encoding decodes to the same is O1. -/
theorem decodedInstructionsAreWellFormed : Obligations.DecodedInstructionsAreWellFormed := by
  unfold Obligations.DecodedInstructionsAreWellFormed
  refine ⟨fun w i h => ?_, decodeWord_ne_truncated⟩
  have hwf := wellFormed_of_decodeWord h
  exact ⟨hwf, (decodeWord_encode hwf).trans h.symm⟩

/-- Settles O22: a reserved word is reserved by the map of its primary opcode, so each set is that of one map; COP0 and
`CACHE` stand behind the check of coprocessor 0, and the coprocessor 2 opcodes have one meaning. -/
theorem reservedAndUnusableEncodingsRaise : Obligations.ReservedAndUnusableEncodingsRaise := by
  unfold Obligations.ReservedAndUnusableEncodingsRaise
  intro w s
  refine ⟨fun p => executeWord_of_reserved, ?unusable, ?coprocessor2, ?primary, ?special, ?regimm, ?cop0, ?cop1⟩
  case unusable =>
    intro hop hmode hcu0
    obtain ⟨k, hk⟩ := executeWord_eq_requireCp0 (decodeWord_behindCp0Check hop) s
    rw [hk, requireCp0_of_unusable (cp0Usable_eq_false hmode hcu0)]
  case coprocessor2 =>
    intro hop
    rw [executeWord_of_coprocessor2 hop, coprocessor2Fault_eq]
  case primary =>
    simp [decodeWord_reserved_iff, decodeSpecial_ne_reserved, decodeRegimm_ne_reserved, decodeCop0_ne_reserved,
      decodeCop1_ne_reserved]
  case special =>
    rw [← decodeSpecial_reserved_iff]
    simp [decodeWord_reserved_iff, decodeRegimm_ne_reserved, decodeCop0_ne_reserved, decodeCop1_ne_reserved]
  case regimm =>
    rw [← decodeRegimm_reserved_iff]
    simp [decodeWord_reserved_iff, decodeSpecial_ne_reserved, decodeCop0_ne_reserved, decodeCop1_ne_reserved]
  case cop0 =>
    rw [← decodeCop0_reserved_iff]
    simp [decodeWord_reserved_iff, decodeSpecial_ne_reserved, decodeRegimm_ne_reserved, decodeCop1_ne_reserved]
  case cop1 =>
    refine Iff.trans ?_ (and_congr_right fun _ => decodeCop1_reserved_iff)
    simp [decodeWord_reserved_iff, decodeSpecial_ne_reserved, decodeRegimm_ne_reserved, decodeCop0_ne_reserved]

end Sys2Proof.Proofs
end

section
/-! SUPPORT. A word laid out in bytes (R87, R140). -/

namespace Sys2Proof

/-- Two adjacent fields are one. -/
theorem field_append_field (w : Word32) (lo len len' : Nat) :
    field w (lo + len) len' ++ field w lo len = field w lo (len' + len) :=
  BitVec.extractLsb'_append_extractLsb'_eq_extractLsb' rfl

theorem field_bytes_append (w : Word32) : field w 24 8 ++ field w 16 8 ++ field w 8 8 ++ field w 0 8 = w := by
  rw [field_append_field w 16 8 8, field_append_field w 8 8 16, field_append_field w 0 8 24]
  exact BitVec.extractLsb'_eq_self

/-- The bytes of a word, put together again in the same byte order, are the word. -/
theorem decodeBytes_bytesOfWord (bigEndian : Bool) (w : Word32) (rest : List Byte) :
    decodeBytes bigEndian (bytesOfWord bigEndian w ++ rest) = (decodeWord w, rest) := by
  cases bigEndian <;> simp [decodeBytes, bytesOfWord, wordOfBytes, field_bytes_append]

end Sys2Proof

namespace Sys2Proof.Proofs

/-- Settles O3: the bytes by `decodeBytes_bytesOfWord`; the words of the spec's examples are decoded by evaluation. -/
theorem wordsAndBytesDecode : Obligations.WordsAndBytesDecode := by
  unfold Obligations.WordsAndBytesDecode
  refine ⟨decodeBytes_bytesOfWord, ?_⟩
  decide

end Sys2Proof.Proofs
end

section
/-! SUPPORT. Masked bits after a masked write, after an insertion, and of a placed field. -/

namespace Sys2Proof.Machine
theorem maskMerge_and_of_disjoint {n : Nat} {mask m : BitVec n} (old v : BitVec n) (h : mask &&& m = 0) :
    maskMerge mask old v &&& m = old &&& m := by
  apply BitVec.eq_of_getLsbD_eq
  intro i hi
  have hbit : (mask.getLsbD i && m.getLsbD i) = false := by
    rw [← BitVec.getLsbD_and, h, BitVec.ofNat_eq_ofNat, BitVec.getLsbD_zero]
  simp only [maskMerge, BitVec.getLsbD_and, BitVec.getLsbD_or, BitVec.getLsbD_not]
  cases hm : m.getLsbD i <;> simp_all

theorem insertField_and_of_disjoint {n len lo : Nat} (v : BitVec len) (u m : BitVec n)
    (h : m.extractLsb' lo len = 0) : insertField lo v u &&& m = u &&& m := by
  apply BitVec.eq_of_getLsbD_eq
  intro i hi
  rw [BitVec.getLsbD_and, BitVec.getLsbD_and, getLsbD_insertField v u hi]
  split
  · rename_i hlo
    have hbit := congrArg (·.getLsbD (i - lo)) h
    simp only [BitVec.getLsbD_extractLsb', show lo + (i - lo) = i by omega, show i - lo < len by omega] at hbit
    simp_all
  · rfl

theorem shiftLeft_setWidth_and_of_disjoint {n len lo : Nat} (v : BitVec len) (m : BitVec n)
    (h : m.extractLsb' lo len = 0) : (v.setWidth n <<< lo) &&& m = 0 := by
  apply BitVec.eq_of_getLsbD_eq
  intro i hi
  simp only [BitVec.getLsbD_and, BitVec.getLsbD_shiftLeft, BitVec.getLsbD_setWidth]
  by_cases hlo : lo ≤ i ∧ i - lo < len
  · have hbit := congrArg (·.getLsbD (i - lo)) h
    simp only [BitVec.getLsbD_extractLsb', show lo + (i - lo) = i by omega, hlo.2] at hbit
    simp_all
  · have : i < lo ∨ len ≤ i - lo := by omega
    obtain h1 | h1 := this <;> simp [h1]
end Sys2Proof.Machine
end

section
/-! SUPPORT. All that an instruction can reach: an instruction that is none of the eight that write system state takes
an
exception or has an ordinary effect, which leaves the system coprocessor, the TLB, the timer and the read-only state as
they are and memory in its canonical form (R451, R526). -/

namespace Sys2Proof.Machine

variable {s t : State}

/-! ### Ordinary effects, and the instructions that have another -/

/-- What every instruction but those of `WritesSystemState` leaves alone when it takes no exception. -/
def OrdinaryEffect (s t : State) : Prop :=
  Cp0Same s t ∧ SystemRestSame s t ∧ t.cfg = s.cfg ∧ t.ccr1[0] = s.ccr1[0] ∧ (s.mem.wf = true → t.mem.wf = true)

/-- The instructions that write a system-coprocessor register or the TLB otherwise than by an exception. -/
inductive WritesSystemState : Instr → Prop
  | mtc0 (rt rd : Reg) : WritesSystemState (.mtc0 rt rd)
  | dmtc0 (rt rd : Reg) : WritesSystemState (.dmtc0 rt rd)
  | ctc0 (rt rd : Reg) : WritesSystemState (.ctc0 rt rd)
  | tlbr : WritesSystemState .tlbr
  | tlbwi : WritesSystemState .tlbwi
  | tlbwr : WritesSystemState .tlbwr
  | tlbp : WritesSystemState .tlbp
  | eret : WritesSystemState .eret

theorem ordinaryEffect_refl (s : State) : OrdinaryEffect s s := by
  simp [OrdinaryEffect, Cp0Same, SystemRestSame]

theorem ordinaryEffect_writeGpr (r : Reg) (v : Word) (s : State) : OrdinaryEffect s (writeGpr r v s) := by
  simp [OrdinaryEffect, Cp0Same, SystemRestSame]

theorem ordinaryEffect_takeBranch (target : Word) (h : OrdinaryEffect s t) :
    OrdinaryEffect s (takeBranch target t) := h

theorem ordinaryEffect_nullifySlot (h : OrdinaryEffect s t) : OrdinaryEffect s (nullifySlot t) := h

theorem ordinaryEffect_writeLink (s : State) : OrdinaryEffect s (writeLink s) := ordinaryEffect_writeGpr ..

theorem ordinaryEffect_cp0Read (n : Reg) (s : State) : OrdinaryEffect s (cp0Read n s).2 := by
  unfold cp0Read
  split <;> exact ordinaryEffect_refl s

theorem ordinaryEffect_writeGpr_cp0Read (r n : Reg) (v : Word) (s : State) :
    OrdinaryEffect s (writeGpr r v (cp0Read n s).2) := by
  simpa [OrdinaryEffect, Cp0Same, SystemRestSame] using ordinaryEffect_cp0Read n s

/-! ### Memory and the control registers -/

theorem wf_of_memWriteMasked_ok {va : Word} {n : Nat} {v mask : Word} {m : Memory}
    (h : memWriteMasked s va n v mask = .ok m) (hwf : s.mem.wf = true) : m.wf = true := by
  obtain ⟨-, pa, a, -, -, rfl⟩ := memWriteMasked_ok.mp h
  exact wf_writeLanes _ _ _ _ _ _ _ hwf

/-- All that a store-conditional can do when it completes (R304): the store when the value read equals the latch, else
nothing. -/
theorem memConditionalWrite_ok {va : Word} {n : Nat} {latch v : Word} {r : Option Memory} :
    memConditionalWrite s va n latch v = .ok r ↔ misaligned va n = false ∧
      ∃ pa a, translate s va .write = .ok (pa, a) ∧ busFails s.cfg false pa n = false ∧
        if readLanes s.cfg.bigEndian s.mem pa n n = latch then
          busFails s.cfg true pa n = false ∧
            r = some (writeLanes s.cfg.bigEndian s.mem pa n v (BitVec.allOnes 64) n)
        else r = none := by
  unfold memConditionalWrite
  cases hm : misaligned va n <;> simp only [Bool.false_eq_true, if_false, if_true, Access.bind_ok, true_and]
  · constructor
    · rintro ⟨⟨pa, a⟩, ht, h⟩
      refine ⟨pa, a, ht, ?_⟩
      unfold busRead busWrite at h
      cases hr : busFails s.cfg false pa n <;> cases hw : busFails s.cfg true pa n <;> simp_all
      all_goals
        split at h <;> simp_all
    · rintro ⟨pa, a, ht, hr, h⟩
      refine ⟨(pa, a), ht, ?_⟩
      unfold busRead busWrite
      split at h <;> simp_all
  · simp

theorem wf_of_memConditionalWrite_ok {va : Word} {n : Nat} {latch v : Word} {m : Memory}
    (h : memConditionalWrite s va n latch v = .ok (some m)) (hwf : s.mem.wf = true) : m.wf = true := by
  obtain ⟨-, pa, a, -, -, h⟩ := memConditionalWrite_ok.mp h
  split at h
  · cases h.2
    exact wf_writeLanes _ _ _ _ _ _ _ hwf
  · cases h

theorem writeFpControl_ccr1_zero (n : Reg) (v : Word32) (s : State) : (writeFpControl n v s).ccr1[0] = s.ccr1[0] := by
  unfold writeFpControl
  split
  · rfl
  · rename_i hn
    have hpos : n.toNat ≠ 0 := fun h => hn (BitVec.eq_of_toNat_eq h)
    split
    · simp [fcsrWrite]
    · simp [Vector.getElem_set_ne, hpos]

/-! ### The instructions, family by family -/

/-- An access that completes goes on; what it answered is known then. -/
theorem RaisesOr.withAccess_ok {P : State → Prop} {α : Type} {a : Access α} {k : α → Result}
    (h : ∀ v, a = .ok v → RaisesOr P s (k v)) : RaisesOr P s (Machine.withAccess a s k) := by
  intro t ht
  obtain ⟨v, hv, hk⟩ | ⟨e, -, rfl⟩ := withAccess_next ht
  · exact h v hv t hk
  · exact .inl ⟨e, rfl⟩

theorem raisesOr_ordinary_storeLanes (n : Nat) (v mask va : Word) (s : State) :
    RaisesOr (OrdinaryEffect s) s (storeLanes n v mask va s) :=
  .withAccess_ok fun _ hm => .next ⟨rfl, ⟨rfl, rfl, rfl, rfl, rfl, rfl⟩, rfl, rfl, wf_of_memWriteMasked_ok hm⟩

theorem raisesOr_ordinary_storeBytes (n : Nat) (v va : Word) (s : State) :
    RaisesOr (OrdinaryEffect s) s (storeBytes n v va s) :=
  .withAccess_ok fun _ hm => .next ⟨rfl, ⟨rfl, rfl, rfl, rfl, rfl, rfl⟩, rfl, rfl, wf_of_memWriteMasked_ok hm⟩

theorem raisesOr_ordinary_storeConditional (rt : Reg) (va : Word) (n : Nat) (latch v : Word) (s : State) :
    RaisesOr (OrdinaryEffect s) s
      (withAccess (memConditionalWrite s va n latch v) s fun r => finishConditional rt r s) := by
  refine .withAccess_ok fun r hr => ?_
  cases r with
  | none => exact .next (ordinaryEffect_writeGpr rt 0 s)
  | some m =>
    refine .next ?_
    have hwf := wf_of_memConditionalWrite_ok hr
    simpa [OrdinaryEffect, Cp0Same, SystemRestSame] using hwf

theorem exec_raisesOr_ordinary {i : Instr} (hi : ¬ WritesSystemState i) (s : State) :
    RaisesOr (OrdinaryEffect s) s (exec i s) := by
  cases i
  -- general registers, `hi` and `lo`, and `SYNC`
  case sll | srl | sra | sllv | srlv | srav | dsll | dsrl | dsra | dsll32 | dsrl32 | dsra32 | dsllv | dsrlv | dsrav
      | addu | subu | daddu | dsubu | addiu | daddiu | and | or | xor | nor | andi | ori | xori | lui
      | slt | sltu | slti | sltiu | mfhi | mflo =>
    exact .next (ordinaryEffect_writeGpr ..)
  case mthi | mtlo | mult | multu | dmult | dmultu | div | divu | ddiv | ddivu =>
    exact .next (by simp [OrdinaryEffect, Cp0Same, SystemRestSame])
  case sync => exact .next (ordinaryEffect_refl s)
  -- additions and subtractions that trap on overflow
  case add | addi | sub | dadd | daddi | dsub => exact .ite .raise (.next (ordinaryEffect_writeGpr ..))
  -- conditional traps
  case tge | tgeu | tlt | tltu | teq | tne | tgei | tgeiu | tlti | tltiu | teqi | tnei =>
    exact .ite .raise (.next (ordinaryEffect_refl s))
  case syscall | brk => exact .raise
  case cop2 | lwc2 | ldc2 | swc2 | sdc2 => exact .ite .raise .raise
  -- jumps, and branches: taken, or not taken
  case j | jr => exact .next (ordinaryEffect_takeBranch _ (ordinaryEffect_refl s))
  case jal | jalr => exact .next (ordinaryEffect_takeBranch _ (ordinaryEffect_writeGpr ..))
  case beq | bne | blez | bgtz | bltz | bgez =>
    exact .ite (.next (ordinaryEffect_takeBranch _ (ordinaryEffect_refl s))) (.next (ordinaryEffect_refl s))
  case bltzal | bgezal =>
    exact .ite (.next (ordinaryEffect_takeBranch _ (ordinaryEffect_writeLink s))) (.next (ordinaryEffect_writeLink s))
  case beql | bnel | blezl | bgtzl | bltzl | bgezl =>
    exact .ite (.next (ordinaryEffect_takeBranch _ (ordinaryEffect_refl s)))
      (.next (ordinaryEffect_nullifySlot (ordinaryEffect_refl s)))
  case bltzall | bgezall =>
    exact .ite (.next (ordinaryEffect_takeBranch _ (ordinaryEffect_writeLink s)))
      (.next (ordinaryEffect_nullifySlot (ordinaryEffect_writeLink s)))
  -- loads and stores
  case lb | lbu | lh | lhu | lw | lwu | ld | lwl | lwr | ldl | ldr =>
    exact .withAccess fun _ => .next (ordinaryEffect_writeGpr ..)
  case ll | lld => exact .withAccess fun _ => .next (by simp [OrdinaryEffect, Cp0Same, SystemRestSame])
  case sb | sh | sw | sd => exact raisesOr_ordinary_storeBytes _ _ _ s
  case swl | swr | sdl | sdr => exact raisesOr_ordinary_storeLanes _ _ _ _ s
  case sc | scd => exact raisesOr_ordinary_storeConditional _ _ _ _ _ s
  -- the system coprocessor
  case mtc0 rt rd => exact absurd (.mtc0 rt rd) hi
  case dmtc0 rt rd => exact absurd (.dmtc0 rt rd) hi
  case ctc0 rt rd => exact absurd (.ctc0 rt rd) hi
  case tlbr => exact absurd .tlbr hi
  case tlbwi => exact absurd .tlbwi hi
  case tlbwr => exact absurd .tlbwr hi
  case tlbp => exact absurd .tlbp hi
  case eret => exact absurd .eret hi
  case mfc0 | dmfc0 => exact .requireCp0 (.next (ordinaryEffect_writeGpr_cp0Read ..))
  case cfc0 => exact .requireCp0 (.next (ordinaryEffect_writeGpr ..))
  case cache => exact .requireCp0 (.next (ordinaryEffect_refl s))
  case bc0f | bc0t =>
    exact .requireCp0 (.ite (.next (ordinaryEffect_takeBranch _ (ordinaryEffect_refl s)))
      (.next (ordinaryEffect_refl s)))
  -- the floating-point unit
  case bc1f | bc1t =>
    exact .requireCp1 (.ite (.next (ordinaryEffect_takeBranch _ (ordinaryEffect_refl s)))
      (.next (ordinaryEffect_refl s)))
  case bc1fl | bc1tl =>
    exact .requireCp1 (.ite (.next (ordinaryEffect_takeBranch _ (ordinaryEffect_refl s)))
      (.next (ordinaryEffect_nullifySlot (ordinaryEffect_refl s))))
  case movfS | movtS | movzS | movnS | movfD | movtD | movzD | movnD =>
    exact .requireCp1 (.ite (.next (by simp [OrdinaryEffect, Cp0Same, SystemRestSame]))
      (.next (ordinaryEffect_refl s)))
  case lwc1 | ldc1 =>
    exact .requireCp1 (.withAccess fun _ => .next (by simp [OrdinaryEffect, Cp0Same, SystemRestSame]))
  case swc1 | sdc1 => exact .requireCp1 (raisesOr_ordinary_storeBytes _ _ _ s)
  case mfc1 | dmfc1 | cfc1 => exact .requireCp1 (.next (ordinaryEffect_writeGpr ..))
  case ctc1 =>
    exact .requireCp1 (.next (by simp [OrdinaryEffect, Cp0Same, SystemRestSame, writeFpControl_ccr1_zero]))
  -- what is left writes one floating-point register or condition bit
  all_goals exact .requireCp1 (.next (by simp [OrdinaryEffect, Cp0Same, SystemRestSame]))

end Sys2Proof.Machine
end

section
/-! SUPPORT. The read-only state (R8, R28, R45, R46, R60), and what user mode without `CU0` cannot reach (R451, R526).
-/

namespace Sys2Proof.Machine

variable {s t : State} {i : Instr}

/-! ### The read-only state -/

theorem OrdinaryEffect.fixedSame (h : OrdinaryEffect s t) : FixedSame s t := by
  obtain ⟨hcp0, ⟨-, hcc0, -⟩, hcfg, hccr1, -⟩ := h
  have hcp0 : t.cp0 = s.cp0 := hcp0
  exact ⟨hcfg, by rw [hcp0], by rw [hcp0], hccr1, hcc0⟩

/-- Of the registers that have read-only bits, a move stores into Config alone, under its mask (R46, R458). -/
theorem cp0Store_readOnly (n : Reg) (v : Word) (c : Cp0) :
    (cp0Store n v c).prid = c.prid ∧ (cp0Store n v c).config &&& ~~~0x3F#32 = c.config &&& ~~~0x3F#32 := by
  fun_cases cp0Store n v c
  case case12 => exact ⟨rfl, maskMerge_and_of_disjoint _ _ (by decide)⟩
  all_goals exact ⟨rfl, rfl⟩

theorem fixedSame_cp0Write (n : Reg) (v : Word) (s : State) : FixedSame s (cp0Write n v s) := by
  refine ⟨cp0Write_cfg s n v, ?_, ?_, by simp, cp0Write_cc0 s n v⟩ <;> unfold cp0Write <;> split
  · rfl
  · split
    · rfl
    · exact (cp0Store_readOnly n v s.cp0).1
  · rfl
  · split
    · rfl
    · exact (cp0Store_readOnly n v s.cp0).2

theorem fixedSame_readEntry (n : Nat) (s : State) : FixedSame s (readEntry n s) := by
  unfold readEntry
  split <;> exact ⟨rfl, rfl, rfl, rfl, rfl⟩

theorem fixedSame_writeEntry (n : Nat) (s : State) : FixedSame s (writeEntry n s) := by
  simp [FixedSame]

/-- The eight instructions that write system state leave the read-only part of it alone, or take an exception. -/
theorem WritesSystemState.raisesOr_fixedSame (hi : WritesSystemState i) (s : State) :
    RaisesOr (FixedSame s) s (exec i s) := by
  cases hi with
  | mtc0 rt rd => exact .requireCp0 (.next (fixedSame_cp0Write rd _ s))
  | dmtc0 rt rd => exact .requireCp0 (.next (fixedSame_cp0Write rd _ s))
  | ctc0 rt rd => exact .requireCp0 (.next ⟨rfl, rfl, rfl, rfl, rfl⟩)
  | tlbr => exact .requireCp0 (.next (fixedSame_readEntry _ s))
  | tlbwi => exact .requireCp0 (.next (fixedSame_writeEntry _ s))
  | tlbwr => exact .requireCp0 (.next (fixedSame_writeEntry _ (drawRandom s).2))
  | tlbp => exact .requireCp0 (.next ⟨rfl, rfl, rfl, rfl, rfl⟩)
  | eret => exact .requireCp0 (.next ⟨rfl, rfl, rfl, rfl, rfl⟩)

theorem fixedSame_of_exec (h : exec i s = .next t) : FixedSame s t := by
  by_cases hi : WritesSystemState i
  · obtain ⟨e, rfl⟩ | ht := hi.raisesOr_fixedSame s t h
    · exact fixedSame_raise e s
    · exact ht
  · obtain ⟨e, rfl⟩ | ht := exec_raisesOr_ordinary hi s t h
    · exact fixedSame_raise e s
    · exact ht.fixedSame

theorem fixedSame_of_step (h : step s = .next t) : FixedSame s t := by
  refine (fixedSame_beginStep s).trans ?_
  obtain ⟨e, rfl⟩ | ⟨w, i, u, -, -, hexec, rfl⟩ := step_next h
  · exact (fixedSame_raise e _).trans (fixedSame_retire _)
  · exact (fixedSame_of_exec hexec).trans (fixedSame_retire _)

/-! ### User mode without `CU0` -/

theorem WritesSystemState.behindCp0Check (hi : WritesSystemState i) : BehindCp0Check i := by
  cases hi <;> exact fun _ => ⟨_, rfl⟩

/-- Where the system coprocessor is not usable, an instruction takes an exception or has an ordinary effect. -/
theorem exec_of_cp0_unusable (hcp0 : cp0Usable s = false) (h : exec i s = .next t) :
    (∃ e, t = raise e s) ∨ OrdinaryEffect s t := by
  by_cases hi : WritesSystemState i
  · obtain ⟨k, hk⟩ := hi.behindCp0Check s
    rw [hk, requireCp0_of_unusable hcp0] at h
    cases h
    exact .inl ⟨_, rfl⟩
  · exact exec_raisesOr_ordinary hi s t h

theorem exec_user_confined (hmode : mode s = some .user) (hcu0 : s.cp0.status.getLsbD 28 = false)
    (h : exec i s = .next t) :
    (∃ e, t = raise e s) ∨ (Cp0Same s t ∧ SystemRestSame s t ∧ mode t = some .user) := by
  have hcp0 : cp0Usable s = false := cp0Usable_eq_false (by simp [hmode]) hcu0
  obtain he | ⟨hcp0Same, hrest, -⟩ := exec_of_cp0_unusable hcp0 h
  · exact .inl he
  · exact .inr ⟨hcp0Same, hrest, (mode_congr (congrArg Cp0.status hcp0Same)).trans hmode⟩

/-- The start of a step reaches `Cause` and the timer's deadline, and what is the environment's own. -/
theorem beginStep_confined (s : State) : let b := beginStep s
    { b.cp0 with cause := s.cp0.cause } = s.cp0 ∧
    { b with cp0 := s.cp0, timerDeadline := s.timerDeadline, cycles := s.cycles, inputs := s.inputs,
             mem := s.mem } = s := by
  obtain ⟨cause, deadline, cycles, inputs, mem, hb⟩ := environmentChanged_beginStep s
  simp only [hb, and_self]

theorem step_user_confined (hmode : mode s = some .user) (hcu0 : s.cp0.status.getLsbD 28 = false)
    (h : step s = .next t) :
    (∃ e, t = retire (raise e (beginStep s))) ∨
    (Cp0Same (beginStep s) t ∧ SystemRestSame (beginStep s) t ∧ mode t = some .user) := by
  obtain he | ⟨w, i, u, -, -, hexec, rfl⟩ := step_next h
  · exact .inl he
  · have hmode' : mode (beginStep s) = some .user := by rw [mode_beginStep, hmode]
    have hcu0' : (beginStep s).cp0.status.getLsbD 28 = false := by rw [beginStep_status, hcu0]
    obtain ⟨e, rfl⟩ | ⟨hcp0, hrest, hu⟩ := exec_user_confined hmode' hcu0' hexec
    · exact .inl ⟨e, rfl⟩
    · refine .inr ⟨?_, ?_, by rw [mode_retire, hu]⟩
      · simpa [Cp0Same] using hcp0
      · simpa [SystemRestSame] using hrest

end Sys2Proof.Machine

namespace Sys2Proof.Proofs

open Sys2Proof.Machine

/-- Settles O27: the start of a step, every instruction and the end of the step each leave the read-only state alone. -/
theorem readOnlyStateNeverChanges : Obligations.ReadOnlyStateNeverChanges := by
  unfold Obligations.ReadOnlyStateNeverChanges
  exact fun _ _ => fixedSame_of_step

/-- Settles O23: the instructions that write system state stand behind the check of coprocessor 0, which fails in user
mode without `CU0`; all others have an ordinary effect (`exec_raisesOr_ordinary`). -/
theorem userInstructionsCannotReachSystemState : Obligations.UserInstructionsCannotReachSystemState := by
  unfold Obligations.UserInstructionsCannotReachSystemState
  constructor
  · intro i s t hmode hcu0 h
    exact ⟨fixedSame_of_exec h, exec_user_confined hmode hcu0 h⟩
  · intro s t hmode hcu0 h
    obtain ⟨hcp0, hrest⟩ := beginStep_confined s
    exact ⟨fixedSame_of_step h, hcp0, hrest, step_user_confined hmode hcu0 h⟩

end Sys2Proof.Proofs
end

section
/-! SUPPORT. The invariant (R21, R23, R30 to R49, R85): the reserved bits and the form of memory are kept by the start
of
a step and by every instruction; the zero register and the branch pipeline at rest are the work of the end of a step. -/

namespace Sys2Proof.Machine

variable {s t : State} {i : Instr} {c : Cp0}

/-- The part of the invariant that everything within a step keeps; `retire` adds the rest. -/
def InvWithin (s : State) : Prop := ReservedBitsZero s.cp0 ∧ s.mem.wf = true

/-! ### The reserved bits -/

theorem reservedBitsZero_withCause {cause : Word32} (h : ReservedBitsZero c)
    (hc : cause &&& 0x4FFF0083#32 = c.cause &&& 0x4FFF0083#32) : ReservedBitsZero { c with cause := cause } := by
  obtain ⟨h1, h2, h3, h4, h5, h6, h7, h8, h9⟩ := h
  exact ⟨h1, h2, h3, h4, h5, h6, h7, hc.trans h8, h9⟩

theorem causeWithIp_reserved {k : Nat} (hk : k < 8) (level : Bool) (cause : Word32) :
    causeWithIp k level cause &&& 0x4FFF0083#32 = cause &&& 0x4FFF0083#32 := by
  refine insertField_and_of_disjoint _ _ _ ?_
  interval_cases k <;> decide

theorem causeOnEntry_reserved (e : Exc) (s : State) :
    causeOnEntry e s &&& 0x4FFF0083#32 = s.cp0.cause &&& 0x4FFF0083#32 := by
  unfold causeOnEntry
  rw [insertField_and_of_disjoint _ _ _ (by decide), insertField_and_of_disjoint _ _ _ (by decide)]
  split
  · rfl
  · exact insertField_and_of_disjoint _ _ _ (by decide)

theorem reservedBitsZero_loadTlbFault (va : Word) (h : ReservedBitsZero c) : ReservedBitsZero (loadTlbFault va c) := by
  obtain ⟨h1, h2, h3, h4, h5, h6, h7, h8, h9⟩ := h
  refine ⟨h1, h2, h3, ?context, h5, h6, ?entryHi, h8, ?xContext⟩
  case context => exact (insertField_and_of_disjoint _ _ _ (by decide)).trans h4
  case entryHi =>
    exact (insertField_and_of_disjoint _ _ _ (by decide)).trans
      ((insertField_and_of_disjoint _ _ _ (by decide)).trans h7)
  case xContext =>
    exact (insertField_and_of_disjoint _ _ _ (by decide)).trans
      ((insertField_and_of_disjoint _ _ _ (by decide)).trans h9)

theorem reservedBitsZero_loadFaultRegisters (e : Exc) (h : ReservedBitsZero c) :
    ReservedBitsZero (loadFaultRegisters e c) := by
  cases e with
  | tlbMod va => exact reservedBitsZero_loadTlbFault va h
  | tlbl va _ => exact reservedBitsZero_loadTlbFault va h
  | tlbs va _ => exact reservedBitsZero_loadTlbFault va h
  | _ => exact h

theorem reservedBitsZero_raise (e : Exc) (h : ReservedBitsZero s.cp0) : ReservedBitsZero (raise e s).cp0 := by
  obtain ⟨h1, h2, h3, h4, h5, h6, h7, -, h9⟩ := reservedBitsZero_loadFaultRegisters e h
  obtain ⟨-, -, -, -, -, -, -, hcause, -⟩ := h
  exact ⟨h1, h2, h3, h4, h5, h6, h7, (causeOnEntry_reserved e s).trans hcause, h9⟩

theorem and_and_of_disjoint {n : Nat} {m k : BitVec n} (v : BitVec n) (h : m &&& k = 0) : v &&& m &&& k = 0 := by
  rw [BitVec.and_assoc, h]
  exact BitVec.and_zero

theorem reservedBitsZero_cp0Store (n : Reg) (v : Word) (h : ReservedBitsZero c) :
    ReservedBitsZero (cp0Store n v c) := by
  obtain ⟨h1, h2, h3, h4, h5, h6, h7, h8, h9⟩ := h
  fun_cases cp0Store n v c
  case case1 => exact ⟨and_and_of_disjoint _ (by decide), h2, h3, h4, h5, h6, h7, h8, h9⟩
  case case2 => exact ⟨h1, and_and_of_disjoint _ (by decide), h3, h4, h5, h6, h7, h8, h9⟩
  case case3 => exact ⟨h1, h2, and_and_of_disjoint _ (by decide), h4, h5, h6, h7, h8, h9⟩
  case case4 => exact ⟨h1, h2, h3, (maskMerge_and_of_disjoint _ _ (by decide)).trans h4, h5, h6, h7, h8, h9⟩
  case case5 => exact ⟨h1, h2, h3, h4, and_and_of_disjoint _ (by decide), h6, h7, h8, h9⟩
  case case6 => exact ⟨h1, h2, h3, h4, h5, and_and_of_disjoint _ (by decide), h7, h8, h9⟩
  case case8 => exact ⟨h1, h2, h3, h4, h5, h6, and_and_of_disjoint _ (by decide), h8, h9⟩
  case case10 => exact ⟨h1, h2, h3, h4, h5, h6, h7, (maskMerge_and_of_disjoint _ _ (by decide)).trans h8, h9⟩
  case case16 => exact ⟨h1, h2, h3, h4, h5, h6, h7, h8, (maskMerge_and_of_disjoint _ _ (by decide)).trans h9⟩
  all_goals exact ⟨h1, h2, h3, h4, h5, h6, h7, h8, h9⟩

theorem entryHiOf_reserved (e : TlbEntry) : entryHiOf e &&& 0x3FFFFF0000001F00#64 = 0 := by
  have hasid := shiftLeft_setWidth_and_of_disjoint (lo := 0) e.asid 0x3FFFFF0000001F00#64 (by decide)
  rw [BitVec.shiftLeft_zero] at hasid
  rw [entryHiOf, BitVec.and_or_distrib_right, BitVec.and_or_distrib_right, hasid,
    shiftLeft_setWidth_and_of_disjoint _ _ (by decide), shiftLeft_setWidth_and_of_disjoint _ _ (by decide)]
  decide

theorem entryLoOf_reserved (half : BitVec 29) (g : Bool) : entryLoOf half g &&& 0xFFFFFFFFC0000000#64 = 0 := by
  have hg := shiftLeft_setWidth_and_of_disjoint (lo := 0) (BitVec.ofBool g) 0xFFFFFFFFC0000000#64 (by decide)
  rw [BitVec.shiftLeft_zero] at hg
  rw [entryLoOf, BitVec.and_or_distrib_right, hg, shiftLeft_setWidth_and_of_disjoint _ _ (by decide)]
  decide

theorem reservedBitsZero_loadEntry (e : TlbEntry) (h : ReservedBitsZero c) : ReservedBitsZero (loadEntry e c) := by
  obtain ⟨h1, -, -, h4, -, h6, -, h8, h9⟩ := h
  exact ⟨h1, entryLoOf_reserved _ _, entryLoOf_reserved _ _, h4, shiftLeft_setWidth_and_of_disjoint _ _ (by decide), h6,
    entryHiOf_reserved e, h8, h9⟩

/-- The number of an entry fits the index field, and the sentinel is bit 31 (R31, R464). -/
theorem probeResult_reserved (s : State) : probeResult s &&& 0x7FFFFFC0#32 = 0 := by
  unfold probeResult
  cases hi : probeIndex s with
  | none => decide
  | some i =>
    have hlt : i < 48 := by
      obtain ⟨h, -⟩ := List.findIdx?_eq_some_iff_getElem.mp hi
      simpa using h
    have hall : ∀ k < 48, BitVec.ofNat 32 k &&& 0x7FFFFFC0#32 = 0 := by decide
    exact hall i hlt

/-! ### The start of a step -/

theorem invWithin_applyEvent (e : EnvEvent) (h : InvWithin s) : InvWithin (applyEvent s e) := by
  obtain ⟨hbits, hmem⟩ := h
  cases e with
  | setLine k level => exact ⟨reservedBitsZero_withCause hbits (causeWithIp_reserved (by omega) _ _), hmem⟩
  | elapse n => exact ⟨hbits, hmem⟩
  | writeByte a b => exact ⟨hbits, Memory.wf_writeByte _ _ _ hmem⟩

theorem invWithin_foldl (events : List EnvEvent) :
    ∀ s : State, InvWithin s → InvWithin (events.foldl applyEvent s) := by
  induction events with
  | nil => exact fun _ h => h
  | cons e _ ih => exact fun s h => ih _ (invWithin_applyEvent e h)

theorem invWithin_deliverInputs (h : InvWithin s) : InvWithin (deliverInputs s) := by
  unfold deliverInputs
  split
  · exact h
  · exact invWithin_foldl _ _ h

theorem invWithin_timerCheck (h : InvWithin s) : InvWithin (timerCheck s) := by
  obtain ⟨hbits, hmem⟩ := h
  unfold timerCheck
  split
  · exact ⟨reservedBitsZero_withCause hbits (causeWithIp_reserved (by decide) _ _), hmem⟩
  · exact ⟨hbits, hmem⟩

theorem invWithin_beginStep (h : InvWithin s) : InvWithin (beginStep s) :=
  invWithin_timerCheck (invWithin_deliverInputs h)

/-! ### The instructions -/

theorem invWithin_raise (e : Exc) (h : InvWithin s) : InvWithin (raise e s) := ⟨reservedBitsZero_raise e h.1, h.2⟩

theorem OrdinaryEffect.invWithin (ht : OrdinaryEffect s t) (h : InvWithin s) : InvWithin t := by
  obtain ⟨hcp0, -, -, -, hmem⟩ := ht
  obtain ⟨hbits, hwf⟩ := h
  have hcp0 : t.cp0 = s.cp0 := hcp0
  exact ⟨hcp0 ▸ hbits, hmem hwf⟩

theorem reservedBitsZero_cp0Write (n : Reg) (v : Word) (h : ReservedBitsZero s.cp0) :
    ReservedBitsZero (cp0Write n v s).cp0 := by
  unfold cp0Write
  split
  · exact h
  · split
    · exact reservedBitsZero_withCause (c := { s.cp0 with compare := lo32 v }) h (causeWithIp_reserved (by decide) _ _)
    · exact reservedBitsZero_cp0Store n v h

theorem invWithin_cp0Write (n : Reg) (v : Word) (h : InvWithin s) : InvWithin (cp0Write n v s) :=
  ⟨reservedBitsZero_cp0Write n v h.1, by rw [cp0Write_mem]; exact h.2⟩

theorem invWithin_readEntry (n : Nat) (h : InvWithin s) : InvWithin (readEntry n s) := by
  unfold readEntry
  split
  · exact ⟨reservedBitsZero_loadEntry _ h.1, h.2⟩
  · exact h

theorem invWithin_writeEntry (n : Nat) (h : InvWithin s) : InvWithin (writeEntry n s) := by
  simpa [InvWithin] using h

theorem invWithin_probe (h : InvWithin s) :
    InvWithin { s with cp0 := { s.cp0 with index := probeResult s } } := by
  obtain ⟨⟨-, h2⟩, hmem⟩ := h
  exact ⟨⟨probeResult_reserved s, h2⟩, hmem⟩

theorem WritesSystemState.raisesOr_invWithin (hi : WritesSystemState i) (h : InvWithin s) :
    RaisesOr InvWithin s (exec i s) := by
  cases hi with
  | mtc0 rt rd => exact .requireCp0 (.next (invWithin_cp0Write rd _ h))
  | dmtc0 rt rd => exact .requireCp0 (.next (invWithin_cp0Write rd _ h))
  | ctc0 rt rd => exact .requireCp0 (.next h)
  | tlbr => exact .requireCp0 (.next (invWithin_readEntry _ h))
  | tlbwi => exact .requireCp0 (.next (invWithin_writeEntry _ h))
  | tlbwr => exact .requireCp0 (.next (invWithin_writeEntry (s := (drawRandom s).2) _ h))
  | tlbp => exact .requireCp0 (.next (invWithin_probe h))
  | eret => exact .requireCp0 (.next h)

theorem invWithin_of_exec (h : InvWithin s) (hexec : exec i s = .next t) : InvWithin t := by
  by_cases hi : WritesSystemState i
  · obtain ⟨e, rfl⟩ | ht := hi.raisesOr_invWithin h t hexec
    · exact invWithin_raise e h
    · exact ht
  · obtain ⟨e, rfl⟩ | ht := exec_raisesOr_ordinary hi s t hexec
    · exact invWithin_raise e h
    · exact ht.invWithin h

/-! ### The end of a step -/

theorem resolveBranchPipeline_atRest (s : State) :
    (resolveBranchPipeline s).branchState = .none ∨ (resolveBranchPipeline s).branchState = .delay := by
  cases hb : s.branchState with
  | none => exact .inl (by rw [resolveBranchPipeline_of_none hb]; exact hb)
  | delay => exact .inl (by rw [resolveBranchPipeline_of_delay hb])
  | branch => exact .inr (by rw [resolveBranchPipeline_of_branch hb])
  | exception => exact .inl (by rw [resolveBranchPipeline_of_exception hb])
  | nullify => exact .inl (by rw [resolveBranchPipeline_of_nullify hb])

theorem inv_retire (h : InvWithin s) : Inv (retire s) where
  zeroRegister := by simp [retire]
  branchAtRest := resolveBranchPipeline_atRest s
  reservedBits := by rw [retire_cp0]; exact h.1
  memoryForm := by rw [retire_mem]; exact h.2

theorem inv_step (h : Inv s) (hstep : step s = .next t) : Inv t := by
  have hbegin : InvWithin (beginStep s) := invWithin_beginStep ⟨h.reservedBits, h.memoryForm⟩
  obtain ⟨e, rfl⟩ | ⟨w, i, u, -, -, hexec, rfl⟩ := step_next hstep
  · exact inv_retire (invWithin_raise e hbegin)
  · exact inv_retire (invWithin_of_exec hbegin hexec)

theorem inv_resetIn (c : Config) : Inv (State.resetIn c) where
  zeroRegister := by simp [State.resetIn]
  branchAtRest := .inl rfl
  reservedBits := by simp [ReservedBitsZero, State.resetIn, Cp0.resetIn]
  memoryForm := rfl

end Sys2Proof.Machine

namespace Sys2Proof.Proofs

open Sys2Proof.Machine

/-- Settles O25: `InvWithin` is kept by the start of the step and by the instruction or the exception entry; `retire`
gives `Inv` back. -/
theorem everyStepKeepsTheInvariant : Obligations.EveryStepKeepsTheInvariant := by
  unfold Obligations.EveryStepKeepsTheInvariant
  exact fun _ _ => inv_step

/-- Settles O26: the parameters of a configuration reach PRId, Config and floating-point control register 0 alone. -/
theorem resetMeetsTheInvariant : Obligations.ResetMeetsTheInvariant := by
  unfold Obligations.ResetMeetsTheInvariant
  exact ⟨inv_resetIn Config.default, inv_resetIn⟩

end Sys2Proof.Proofs
end

section
/-! SUPPORT. Completion (R347, R106, R508): outside the reserved mode, and with a physical address space that holds the
unmapped windows, every access answers with a value or an exception, and so every instruction and step completes. -/

namespace Sys2Proof.Machine

variable {s t : State}

/-! ### Accesses answer -/

/-- The access gives a value or an exception; it is no stop of the model. -/
def Access.Answers {α : Type} (a : Access α) : Prop := (∃ v, a = .ok v) ∨ ∃ e, a = .raised e

section Answers

variable {α β : Type}

theorem Access.answers_ok (v : α) : (Access.ok v).Answers := .inl ⟨v, rfl⟩

theorem Access.answers_raised (e : Exc) : (Access.raised e : Access α).Answers := .inr ⟨e, rfl⟩

theorem Access.answers_bind {a : Access α} {k : α → Access β} (ha : a.Answers) (hk : ∀ v, (k v).Answers) :
    (a.bind k).Answers := by
  obtain ⟨v, rfl⟩ | ⟨e, rfl⟩ := ha
  · exact hk v
  · exact .inr ⟨e, rfl⟩

end Answers

/-- What completion asks of a state: a mode with a segment map, and room for the unmapped windows. -/
def Translates (s : State) : Prop := mode s ≠ none ∧ 36 ≤ s.cfg.paBits

theorem unmappedTarget_lt (s : State) (kind : SegmentKind) (va : Word) : (unmappedTarget s kind va).1 < 2 ^ 36 := by
  cases kind with
  | physicalWindow => exact (va.extractLsb' 0 36).isLt
  | _ => exact Nat.lt_trans (va.extractLsb' 0 29).isLt (by decide)

theorem translateUnmapped_eq_ok (h : 36 ≤ s.cfg.paBits) (kind : SegmentKind) (va : Word) :
    translateUnmapped s kind va = .ok (unmappedTarget s kind va) :=
  if_pos (Nat.lt_of_lt_of_le (unmappedTarget_lt s kind va) (Nat.pow_le_pow_right (by decide) h))

theorem translateMapped_answers (s : State) (va : Word) (intent : Intent) (wide : Bool) :
    (translateMapped s va intent wide).Answers := by
  unfold translateMapped
  split
  · exact Access.answers_raised _
  · simp only
    split
    · exact Access.answers_raised _
    · split
      · exact Access.answers_raised _
      · exact Access.answers_ok _

theorem translate_answers (h : Translates s) (va : Word) (intent : Intent) : (translate s va intent).Answers := by
  obtain ⟨hmode, hpa⟩ := h
  unfold translate
  split
  · contradiction
  · split
    · exact Access.answers_raised _
    · exact translateMapped_answers ..
    · rw [translateUnmapped_eq_ok hpa]
      exact Access.answers_ok _

theorem memRead_answers (h : Translates s) (va : Word) (n : Nat) : (memRead s va n).Answers := by
  unfold memRead
  split
  · exact Access.answers_raised _
  · refine Access.answers_bind (translate_answers h va .read) fun p => ?_
    split
    · exact Access.answers_raised _
    · exact Access.answers_ok _

theorem memWriteMasked_answers (h : Translates s) (va : Word) (n : Nat) (v mask : Word) :
    (memWriteMasked s va n v mask).Answers := by
  unfold memWriteMasked
  split
  · exact Access.answers_raised _
  · refine Access.answers_bind (translate_answers h va .write) fun p => ?_
    split
    · exact Access.answers_raised _
    · exact Access.answers_ok _

theorem memConditionalWrite_answers (h : Translates s) (va : Word) (n : Nat) (latch v : Word) :
    (memConditionalWrite s va n latch v).Answers := by
  unfold memConditionalWrite
  split
  · exact Access.answers_raised _
  · refine Access.answers_bind (translate_answers h va .write) fun p => ?_
    split
    · exact Access.answers_raised _
    · split
      · split
        · exact Access.answers_raised _
        · exact Access.answers_ok _
      · exact Access.answers_ok _

theorem fetchWord_answers (h : Translates s) : (fetchWord s).Answers := by
  unfold fetchWord
  refine Access.answers_bind ?_ fun pa => ?_
  · unfold translateFetch
    split
    · exact Access.answers_raised _
    · exact Access.answers_bind (translate_answers h _ _) fun _ => Access.answers_ok _
  · split
    · exact Access.answers_raised _
    · exact Access.answers_ok _

/-! ### Results that complete -/

/-- The result is a next state. -/
def Completes (r : Result) : Prop := ∃ t, r = .next t

namespace Completes

theorem next (t : State) : Completes (.next t) := ⟨t, rfl⟩

theorem ite {c : Prop} [Decidable c] {a b : Result} (ha : Completes a) (hb : Completes b) :
    Completes (if c then a else b) := by
  split
  · exact ha
  · exact hb

theorem requireCp0 {k : Result} (h : Completes k) : Completes (requireCp0 s k) := ite h (next _)

theorem requireCp1 {k : Result} (h : Completes k) : Completes (requireCp1 s k) := ite h (next _)

theorem withAccess {α : Type} {a : Access α} {k : α → Result} (ha : a.Answers) (hk : ∀ v, Completes (k v)) :
    Completes (withAccess a s k) := by
  obtain ⟨v, rfl⟩ | ⟨e, rfl⟩ := ha
  · exact hk v
  · exact next _

theorem retireResult {r : Result} (h : Completes r) : Completes (retireResult r) := by
  obtain ⟨t, rfl⟩ := h
  exact next _

end Completes

theorem completes_finishConditional (rt : Reg) (r : Option Memory) (s : State) :
    Completes (finishConditional rt r s) := by
  cases r <;> exact .next _

theorem completes_exec (h : Translates s) (i : Instr) : Completes (exec i s) := by
  cases i
  -- additions and subtractions that trap on overflow, conditional traps, branches, and the coprocessor 2 opcodes
  case add | addi | sub | dadd | daddi | dsub | tge | tgeu | tlt | tltu | teq | tne | tgei | tgeiu | tlti | tltiu
      | teqi | tnei | cop2 | lwc2 | ldc2 | swc2 | sdc2 | beq | bne | blez | bgtz | bltz | bgez | bltzal | bgezal
      | beql | bnel | blezl | bgtzl | bltzl | bgezl | bltzall | bgezall =>
    exact .ite (.next _) (.next _)
  -- loads and stores
  case lb | lbu | lh | lhu | lw | lwu | ld | lwl | lwr | ldl | ldr | ll | lld =>
    exact .withAccess (memRead_answers h _ _) fun _ => .next _
  case sb | sh | sw | sd | swl | swr | sdl | sdr =>
    exact .withAccess (memWriteMasked_answers h _ _ _ _) fun _ => .next _
  case sc | scd =>
    exact .withAccess (memConditionalWrite_answers h _ _ _ _) fun r => completes_finishConditional _ r s
  -- the system coprocessor
  case mfc0 | dmfc0 | cfc0 | mtc0 | dmtc0 | ctc0 | tlbr | tlbwi | tlbwr | tlbp | eret | cache =>
    exact .requireCp0 (.next _)
  case bc0f | bc0t => exact .requireCp0 (.ite (.next _) (.next _))
  -- the floating-point unit
  case bc1f | bc1t | bc1fl | bc1tl | movfS | movtS | movzS | movnS | movfD | movtD | movzD | movnD =>
    exact .requireCp1 (.ite (.next _) (.next _))
  case lwc1 | ldc1 => exact .requireCp1 (.withAccess (memRead_answers h _ _) fun _ => .next _)
  case swc1 | sdc1 => exact .requireCp1 (.withAccess (memWriteMasked_answers h _ _ _ _) fun _ => .next _)
  case addS | subS | mulS | divS | sqrtS | absS | movS | negS | roundLS | truncLS | ceilLS | floorLS | roundWS | truncWS
      | ceilWS | floorWS | recipS | rsqrtS | addD | subD | mulD | divD | sqrtD | absD | movD | negD | roundLD | truncLD
      | ceilLD | floorLD | roundWD | truncWD | ceilWD | floorWD | recipD | rsqrtD | cvtSD | cvtSW | cvtSL | cvtDS | cvtDW
      | cvtDL | cvtWS | cvtWD | cvtLS | cvtLD | mfc1 | dmfc1 | cfc1 | mtc1 | dmtc1 | ctc1 =>
    exact .requireCp1 (.next _)
  case cFS | cUnS | cEqS | cUeqS | cOltS | cUltS | cOleS | cUleS | cSfS | cNgleS | cSeqS | cNglS | cLtS | cNgeS | cLeS
      | cNgtS | cFD | cUnD | cEqD | cUeqD | cOltD | cUltD | cOleD | cUleD | cSfD | cNgleD | cSeqD | cNglD | cLtD | cNgeD
      | cLeD | cNgtD =>
    exact .requireCp1 (.next _)
  -- what is left always completes
  all_goals exact .next _

theorem completes_executeWord (h : Translates s) (w : Word32) : Completes (executeWord w s) := by
  unfold executeWord
  split
  · exact completes_exec h _
  · rename_i place _
    cases place with
    | cop0 => exact .requireCp0 (.next _)
    | cop1 => exact .requireCp1 (.next _)
    | primary => exact .next _
    | special => exact .next _
    | regimm => exact .next _
  · exact .next _

theorem beginStep_cfg (s : State) : (beginStep s).cfg = s.cfg := (fixedSame_beginStep s).1

theorem completes_step (h : Translates (beginStep s)) : Completes (step s) := by
  simp only [step, runStep]
  exact .ite (.next _) (.retireResult (.withAccess (fetchWord_answers h) fun w => completes_executeWord h w))

end Sys2Proof.Machine

namespace Sys2Proof.Proofs

open Sys2Proof.Machine

/-- Settles O24: translation answers (`translate_answers`), hence every access, hence every instruction and the fetch. -/
theorem everyWordAndStepCompletes : Obligations.EveryWordAndStepCompletes := by
  unfold Obligations.EveryWordAndStepCompletes
  constructor
  · exact fun w s hmode hpa => completes_executeWord ⟨hmode, hpa⟩ w
  · exact fun s hmode hpa => completes_step ⟨hmode, by rwa [beginStep_cfg]⟩

end Sys2Proof.Proofs
end

section
/-! SUPPORT. Segments (R102 to R105): the tables as ranges of addresses, in every mode and addressing width. -/

namespace Sys2Proof.Machine

variable {s : State} {m : Mode} {wide : Bool} {va : Word} {intent : Intent}

/-! ### The tables -/

/-- The row holds the address in the mode. -/
def SegmentRow.Holds (r : SegmentRow) (m : Mode) (a : Nat) : Prop := r.mode = m ∧ r.first ≤ a ∧ a ≤ r.last

/-- The rows of one mode rise, so that no address lies in two of them. -/
def RowsRise (table : List SegmentRow) : Prop := table.Pairwise fun r r' => r.mode = r'.mode → r.last < r'.first

theorem rowsRise_segments32 : RowsRise segments32 := by unfold RowsRise; decide

theorem rowsRise_segments64 : RowsRise segments64 := by unfold RowsRise; decide

theorem segmentAt_cons (r : SegmentRow) (rest : List SegmentRow) (m : Mode) (a : Nat) :
    segmentAt (r :: rest) m a = if r.mode = m ∧ r.first ≤ a ∧ a ≤ r.last then some r.kind else segmentAt rest m a := by
  simp only [segmentAt, List.find?_cons]
  split <;> simp_all

theorem segmentAt_eq_some_iff {table : List SegmentRow} (h : RowsRise table) {a : Nat} {kind : SegmentKind} :
    segmentAt table m a = some kind ↔ ∃ r ∈ table, r.Holds m a ∧ r.kind = kind := by
  induction table with
  | nil => simp [segmentAt]
  | cons r rest ih =>
    obtain ⟨hfirst, hrest⟩ := List.pairwise_cons.mp h
    rw [segmentAt_cons, List.exists_mem_cons_iff, ← ih hrest]
    split
    · rename_i hr
      have hnone : ¬ ∃ r' ∈ rest, r'.Holds m a ∧ r'.kind = kind := by
        rintro ⟨r', hmem, ⟨hm, hlo, -⟩, -⟩
        have := hfirst r' hmem (hr.1.trans hm.symm)
        omega
      rw [ih hrest, or_iff_left hnone]
      simp [SegmentRow.Holds, hr]
    · rename_i hr
      simp [SegmentRow.Holds, hr]

theorem toNat_lo32 (v : Word) : (lo32 v).toNat = v.toNat % 2 ^ 32 := BitVec.toNat_setWidth 32 v

/-- The sign extensions of 32-bit values are the two ends of the address space (R102). -/
theorem eq_sext32_lo32_iff : va = sext32 (lo32 va) ↔ va.toNat < 2 ^ 31 ∨ 2 ^ 64 - 2 ^ 31 ≤ va.toNat := by
  rw [← BitVec.toNat_inj, sext32, BitVec.toNat_signExtend, BitVec.msb_eq_decide, toNat_lo32]
  have := va.isLt
  simp only [BitVec.toNat_setWidth, toNat_lo32]
  split <;> simp_all
  all_goals omega

/-! ### Classification, by ranges of the address -/

theorem classify_narrow_eq_some_iff {kind : SegmentKind} : classify m false va = some kind ↔
    (va.toNat < 2 ^ 31 ∨ 2 ^ 64 - 2 ^ 31 ≤ va.toNat) ∧
      ∃ r ∈ segments32, r.Holds m (va.toNat % 2 ^ 32) ∧ r.kind = kind := by
  rw [classify, if_neg (by decide), toNat_lo32, ← eq_sext32_lo32_iff, ← segmentAt_eq_some_iff rowsRise_segments32]
  split_ifs with h
  · exact ⟨fun hk => ⟨h, hk⟩, And.right⟩
  · exact ⟨nofun, fun hk => absurd hk.1 h⟩

theorem classify_wide_eq_some_iff {kind : SegmentKind} : classify m true va = some kind ↔
    (kind = .physicalWindow → va.extractLsb' 36 23 = 0) ∧ ∃ r ∈ segments64, r.Holds m va.toNat ∧ r.kind = kind := by
  rw [classify, if_pos rfl, ← segmentAt_eq_some_iff rowsRise_segments64]
  split
  · rename_i hwindow
    rw [hwindow]
    split_ifs with hbits
    · exact ⟨fun h => ⟨fun _ => hbits, h⟩, And.right⟩
    · refine ⟨nofun, fun ⟨h, hk⟩ => absurd (h ?_) hbits⟩
      exact (Option.some.inj hk).symm
  · rename_i hne
    exact ⟨fun h => ⟨fun hk => absurd (hk ▸ h) hne, h⟩, And.right⟩

/-- An address is in a mapped segment exactly when its range is one of the rows marked so (R102, R103). -/
theorem classify_eq_mapped_iff : classify m wide va = some .mapped ↔ InMappedSegment m wide va := by
  have hlt := va.isLt
  cases wide with
  | false =>
    rw [classify_narrow_eq_some_iff]
    cases m <;> simp [InMappedSegment, segments32, SegmentRow.Holds] <;> omega
  | true =>
    rw [classify_wide_eq_some_iff]
    cases m <;> simp [InMappedSegment, segments64, SegmentRow.Holds]
    omega

theorem exists_unmapped_iff {c : Option SegmentKind} : (∃ kind, kind ≠ .mapped ∧ c = some kind) ↔
    c = some .unmappedCached ∨ c = some .unmappedUncached ∨ c = some .physicalWindow := by
  constructor
  · rintro ⟨kind, hne, rfl⟩
    cases kind <;> simp_all
  · rintro (h | h | h) <;> exact ⟨_, by decide, h⟩

/-- An address is in an unmapped segment exactly when it has one of the other kinds. -/
theorem classify_unmapped_iff :
    (∃ kind, kind ≠ .mapped ∧ classify m wide va = some kind) ↔ InUnmappedSegment m wide va := by
  have hlt := va.isLt
  rw [exists_unmapped_iff]
  cases wide with
  | false =>
    rw [classify_narrow_eq_some_iff, classify_narrow_eq_some_iff, classify_narrow_eq_some_iff]
    cases m <;> simp [InUnmappedSegment, segments32, SegmentRow.Holds]
    omega
  | true =>
    rw [classify_wide_eq_some_iff, classify_wide_eq_some_iff, classify_wide_eq_some_iff]
    by_cases hbits : va.extractLsb' 36 23 = 0#23 <;> cases m <;>
      simp [InUnmappedSegment, segments64, SegmentRow.Holds, hbits] <;> omega

theorem classify_eq_none_iff :
    classify m wide va = none ↔ ¬ InMappedSegment m wide va ∧ ¬ InUnmappedSegment m wide va := by
  rw [← classify_eq_mapped_iff, ← classify_unmapped_iff]
  cases classify m wide va with
  | none => simp
  | some kind => by_cases hk : kind = .mapped <;> simp [hk]

/-- The two windows of the kernel, in either width (R102, R103). -/
theorem classify_cachedWindow (wide : Bool) (hlo : 0xFFFFFFFF80000000 ≤ va.toNat)
    (hhi : va.toNat ≤ 0xFFFFFFFF9FFFFFFF) : classify .kernel wide va = some .unmappedCached := by
  cases wide with
  | false =>
    rw [classify_narrow_eq_some_iff]
    simp [segments32, SegmentRow.Holds]
    omega
  | true =>
    rw [classify_wide_eq_some_iff]
    simp [segments64, SegmentRow.Holds]
    omega

theorem classify_uncachedWindow (wide : Bool) (hlo : 0xFFFFFFFFA0000000 ≤ va.toNat)
    (hhi : va.toNat ≤ 0xFFFFFFFFBFFFFFFF) : classify .kernel wide va = some .unmappedUncached := by
  cases wide with
  | false =>
    rw [classify_narrow_eq_some_iff]
    simp [segments32, SegmentRow.Holds]
    omega
  | true =>
    rw [classify_wide_eq_some_iff]
    simp [segments64, SegmentRow.Holds]
    omega

theorem classify_physicalWindow (htop : va.extractLsb' 62 2 = 2#2) (hbits : va.extractLsb' 36 23 = 0) :
    classify .kernel true va = some .physicalWindow := by
  have htop := congrArg BitVec.toNat htop
  have hlt := va.isLt
  rw [classify_wide_eq_some_iff]
  refine ⟨fun _ => hbits, ?_⟩
  simp [BitVec.extractLsb'_toNat, Nat.shiftRight_eq_div_pow] at htop
  simp [segments64, SegmentRow.Holds]
  omega

/-! ### Translation outside the mapped segments -/

theorem translate_of_outside (hmode : mode s = some m) (h : classify m (addr64 m s) va = none) (intent : Intent) :
    translate s va intent = .raised (addressError va intent) := by
  simp only [translate, hmode, h]

theorem translate_of_mapped (hmode : mode s = some m) (h : classify m (addr64 m s) va = some .mapped)
    (intent : Intent) : translate s va intent = translateMapped s va intent (addr64 m s) := by
  simp only [translate, hmode, h]

theorem translate_of_unmapped {kind : SegmentKind} (hmode : mode s = some m) (hkind : kind ≠ .mapped)
    (h : classify m (addr64 m s) va = some kind) (intent : Intent) :
    translate s va intent = translateUnmapped s kind va := by
  cases kind <;> simp_all [translate]

/-- The exception of a translation that fails in a mapped segment is one of the TLB (R113, R114). -/
theorem translateMapped_ne_addressError (a : Word) : translateMapped s va intent wide ≠ .raised (.adel a) ∧
    translateMapped s va intent wide ≠ .raised (.ades a) := by
  unfold translateMapped
  split
  · cases intent <;> simp [tlbException]
  · simp only
    split
    · cases intent <;> simp [tlbException]
    · split <;> simp

end Sys2Proof.Machine

namespace Sys2Proof.Proofs

open Sys2Proof.Machine

/-- Settles O18: the windows are rows of the kernel's tables, and with 36 physical address bits none of them reaches
beyond the physical space. -/
theorem unmappedWindows : Obligations.UnmappedWindows := by
  unfold Obligations.UnmappedWindows
  intro s intent va hmode hpa
  refine ⟨fun hlo hhi => ?cached, fun hlo hhi => ?uncached, fun hwide htop hbits => ?physical⟩
  case cached =>
    rw [translate_of_unmapped hmode (by decide) (classify_cachedWindow _ hlo hhi), translateUnmapped_eq_ok hpa]
    simp [unmappedTarget, BitVec.extractLsb'_toNat]
  case uncached =>
    rw [translate_of_unmapped hmode (by decide) (classify_uncachedWindow _ hlo hhi), translateUnmapped_eq_ok hpa]
    simp [unmappedTarget, BitVec.extractLsb'_toNat]
  case physical =>
    have hclass : classify .kernel (addr64 .kernel s) va = some .physicalWindow := by
      rw [hwide, classify_physicalWindow htop hbits]
    rw [translate_of_unmapped hmode (by decide) hclass, translateUnmapped_eq_ok hpa]
    simp [unmappedTarget, BitVec.extractLsb'_toNat]

/-- Settles O19: the classification finds no row exactly outside the segments, and neither the TLB nor an unmapped
segment
answers with an address error. -/
theorem addressesOutsideSegmentsAreErrors : Obligations.AddressesOutsideSegmentsAreErrors := by
  unfold Obligations.AddressesOutsideSegmentsAreErrors
  intro s intent va m hmode
  constructor
  · intro hmapped hunmapped
    rw [translate_of_outside hmode (classify_eq_none_iff.mpr ⟨hmapped, hunmapped⟩)]
    cases intent <;> rfl
  · rintro (hmapped | hunmapped) a
    · rw [translate_of_mapped hmode (classify_eq_mapped_iff.mpr hmapped)]
      exact translateMapped_ne_addressError a
    · obtain ⟨kind, hkind, hclass⟩ := classify_unmapped_iff.mpr hunmapped
      rw [translate_of_unmapped hmode hkind hclass]
      unfold translateUnmapped
      simp only
      split <;> simp

end Sys2Proof.Proofs
end

section
/-! SUPPORT. Translation through the TLB (R110 to R114): when an entry matches, and the first that does. -/

namespace Sys2Proof.Machine

variable {s : State} {m : Mode} {wide : Bool} {va : Word} {intent : Intent} {e : TlbEntry} {asid : BitVec 8} {pb : Nat}

/-! ### The comparison (R110) -/

/-- The values of MASK and the position of the even/odd select bit, as R35 lists them. -/
def pageSizes : List (Nat × Nat) :=
  [(0x000, 12), (0x003, 14), (0x00F, 16), (0x03F, 18), (0x0FF, 20), (0x3FF, 22), (0xFFF, 24)]

theorem pageBits_eq_some_iff {mask : BitVec 12} : pageBits mask = some pb ↔ (mask.toNat, pb) ∈ pageSizes := by
  unfold pageSizes
  fun_cases pageBits mask
  on_goal -1 =>
    simp only [imp_false] at *
    simp [*]
  all_goals simp [*, eq_comm]

theorem and_eq_and_iff {n : Nat} {x y keep : BitVec n} :
    x &&& keep = y &&& keep ↔ ∀ k < n, keep.getLsbD k = true → x.getLsbD k = y.getLsbD k := by
  constructor
  · intro h k hk hkeep
    simpa [hkeep] using congrArg (·.getLsbD k) h
  · intro h
    apply BitVec.eq_of_getLsbD_eq
    intro k hk
    rw [BitVec.getLsbD_and, BitVec.getLsbD_and]
    cases hkeep : keep.getLsbD k with
    | true => rw [h k hk hkeep]
    | false => simp

theorem getLsbD_keepBits (e : TlbEntry) {k : Nat} (hk : k < 27) : (keepBits e).getLsbD k = !e.mask.getLsbD k := by
  simp [keepBits, hk]

/-- The VPN2 bits that the mask keeps, and with 64-bit addressing the region, agree with the address. -/
def VpnAgrees (wide : Bool) (va : Word) (e : TlbEntry) : Prop :=
  (wide = true → va.extractLsb' 62 2 = e.r) ∧
  ∀ k, k < (if wide then 27 else 19) → e.mask.getLsbD k = false → va.getLsbD (13 + k) = e.vpn2.getLsbD k

theorem entryMatches_iff :
    entryMatches wide asid va e = true ↔ VpnAgrees wide va e ∧ (e.g = true ∨ e.asid = asid) := by
  unfold entryMatches VpnAgrees asidMatches
  rw [Bool.and_eq_true]
  refine and_congr ?_ (by simp)
  cases wide with
  | true =>
    simp only [if_true, vpnMatches64, Bool.and_eq_true, decide_eq_true_eq, and_eq_and_iff, true_imp_iff]
    refine and_congr_right fun _ => forall₂_congr fun k hk => ?_
    simp [getLsbD_keepBits e hk, hk, -BitVec.getLsbD_eq_getElem]
  | false =>
    simp only [Bool.false_eq_true, if_false, vpnMatches32, decide_eq_true_eq, and_eq_and_iff, false_imp_iff, true_and]
    refine forall₂_congr fun k hk => ?_
    simp [getLsbD_keepBits e (show k < 27 by omega), hk, -BitVec.getLsbD_eq_getElem]

/-! ### The first entry that matches (R112) -/

/-- The entry answers a translation: its mask is one of R35, and it matches the address in the current address space. -/
def EntryAnswers (s : State) (wide : Bool) (va : Word) (e : TlbEntry) : Prop :=
  (∃ pb, pageBits e.mask = some pb) ∧ entryMatches wide (currentAsid s) va e = true

theorem tlbLookup_eq_none {entries : List TlbEntry} (h : ∀ e ∈ entries, ¬ EntryAnswers s wide va e) :
    tlbLookup wide (currentAsid s) va entries = none := by
  unfold tlbLookup
  rw [List.findSome?_eq_none_iff]
  intro e he
  have hno := h e he
  cases hpb : pageBits e.mask with
  | none => rfl
  | some pb => exact if_neg fun hmatch => hno ⟨⟨pb, hpb⟩, hmatch⟩

theorem tlbLookup_eq_some {before after : List TlbEntry} (hbefore : ∀ x ∈ before, ¬ EntryAnswers s wide va x)
    (he : EntryAnswers s wide va e) (hpb : pageBits e.mask = some pb) :
    tlbLookup wide (currentAsid s) va (before ++ e :: after) = some (e, pb) := by
  have hnone := tlbLookup_eq_none hbefore
  unfold tlbLookup at hnone ⊢
  rw [List.findSome?_append, hnone, Option.none_or, List.findSome?_cons, hpb]
  simp only [he.2, if_true]

/-! ### The outcome of a mapped translation (R111, R113) -/

theorem selectHalf_eq (e : TlbEntry) (pb : Nat) (va : Word) :
    selectHalf e pb va = if va.toNat / 2 ^ pb % 2 = 1 then e.lo1 else e.lo0 := by
  have hbit : va.getLsbD pb = decide (va.toNat / 2 ^ pb % 2 = 1) := Nat.testBit_eq_decide_div_mod_eq
  simp only [selectHalf, hbit, decide_eq_true_eq]

theorem tlbException_eq (va : Word) (intent : Intent) (why : TlbFailure) :
    tlbException va intent why = if intent = .write then .tlbs va why else .tlbl va why := by
  cases intent <;> rfl

theorem translateMapped_of_no_entry (h : tlbLookup wide (currentAsid s) va s.tlb.toList = none) :
    translateMapped s va intent wide =
      .raised (if intent = .write then .tlbs va (.refill wide) else .tlbl va (.refill wide)) := by
  simp only [translateMapped, h, tlbException_eq]

theorem translateMapped_of_entry (h : tlbLookup wide (currentAsid s) va s.tlb.toList = some (e, pb)) :
    translateMapped s va intent wide =
      if halfV (selectHalf e pb va) = false then
        .raised (if intent = .write then .tlbs va .invalid else .tlbl va .invalid)
      else if intent = .write ∧ halfD (selectHalf e pb va) = false then .raised (.tlbMod va)
      else .ok (mappedPa s.cfg.paBits pb (halfPfn (selectHalf e pb va)) va, ⟨halfC (selectHalf e pb va), e.g⟩) := by
  simp [translateMapped, h, tlbException_eq]

end Sys2Proof.Machine

namespace Sys2Proof.Proofs

open Sys2Proof.Machine

/-- Settles O20: what the statement calls matching is `EntryAnswers`; the lookup finds the first such entry, and its
half
decides in the order valid, dirty, frame. -/
theorem mappedTranslationThroughTheTlb : Obligations.MappedTranslationThroughTheTlb := by
  unfold Obligations.MappedTranslationThroughTheTlb
  intro s m intent va hmode hseg wide sizes matching
  have hmatching : ∀ e, matching e ↔ EntryAnswers s wide va e := by
    intro e
    simp only [matching, EntryAnswers, entryMatches_iff, VpnAgrees, pageBits_eq_some_iff, and_assoc]
    rfl
  rw [translate_of_mapped hmode (classify_eq_mapped_iff.mpr hseg)]
  simp only [hmatching]
  refine ⟨fun hnone => translateMapped_of_no_entry (tlbLookup_eq_none hnone), ?_⟩
  intro before after e pb hlist hbefore he hpb
  have hlookup : tlbLookup wide (currentAsid s) va s.tlb.toList = some (e, pb) := by
    rw [hlist]
    exact tlbLookup_eq_some hbefore he (pageBits_eq_some_iff.mpr hpb)
  rw [translateMapped_of_entry hlookup, selectHalf_eq]
  generalize (if va.toNat / 2 ^ pb % 2 = 1 then e.lo1 else e.lo0) = half
  refine ⟨fun hinvalid => if_pos hinvalid, fun hvalid hwrite hclean => ?modified, fun hvalid hdirty => ?frame⟩
  case modified => rw [if_neg (by simp [halfV, hvalid]), if_pos ⟨hwrite, hclean⟩]
  case frame =>
    have hnotClean : ¬ (intent = .write ∧ halfD half = false) := by
      rintro ⟨hwrite, hclean⟩
      exact absurd ((hdirty hwrite).symm.trans hclean) (by decide)
    rw [if_neg (by simp [halfV, hvalid]), if_neg hnotClean]
    rfl

end Sys2Proof.Proofs
end

section
/-! SUPPORT. Exception entry field by field (R490 to R506), the interrupt condition (R512) and the return (R470). -/

namespace Sys2Proof.Machine

variable {s t : State} {e : Exc}

/-! ### The program counter, EPC and `Cause.BD` at entry (R500 steps 2 and 4) -/

@[simp] theorem raise_pc (e : Exc) (s : State) :
    (raise e s).pc = vectorBase s + (if statusExl s then 0x180#64 else vectorOffset e) := rfl

/-- EPC keeps its value while `EXL` is set: no exception loads it as a fault register. -/
theorem raise_epc (e : Exc) (s : State) :
    (raise e s).cp0.epc = if statusExl s then s.cp0.epc else restartPc s := by
  cases e <;> rfl

theorem restartPc_of_delay (h : s.branchState = .delay) : restartPc s = s.pc - 4 := if_pos h

theorem restartPc_of_not_delay (h : s.branchState ≠ .delay) : restartPc s = s.pc := if_neg h

theorem causeOnEntry_bd (e : Exc) (s : State) : (causeOnEntry e s).getLsbD 31 =
    if statusExl s then s.cp0.cause.getLsbD 31 else decide (s.branchState = .delay) := by
  unfold causeOnEntry
  rw [getLsbD_insertField _ _ (by decide), if_neg (by decide), getLsbD_insertField _ _ (by decide),
    if_neg (by decide)]
  split
  · rfl
  · rw [getLsbD_insertField _ _ (by decide), if_pos (by decide)]
    simp

theorem statusExl_raise (e : Exc) (s : State) : statusExl (raise e s) = true := by
  simp [statusExl, statusBit]

/-! ### Codes and vectors (R490, R501) -/

/-- Only Coprocessor Unusable names a coprocessor in `Cause.CE`. -/
theorem excCoprocessor_of_not_unusable (h : ∀ m, e ≠ .coprocessorUnusable m) : excCoprocessor e = 0 := by
  cases e with
  | coprocessorUnusable m => exact absurd rfl (h m)
  | _ => rfl

/-- Only a refill has a vector of its own. -/
theorem vectorOffset_of_not_refill (h : ∀ a w, e ≠ .tlbl a (.refill w) ∧ e ≠ .tlbs a (.refill w)) :
    vectorOffset e = 0x180 := by
  cases e with
  | tlbl a why =>
    cases why with
    | refill w => exact absurd rfl (h a w).1
    | invalid => rfl
  | tlbs a why =>
    cases why with
    | refill w => exact absurd rfl (h a w).2
    | invalid => rfl
  | _ => rfl

theorem vectorBase_of_bev (h : s.cp0.status.getLsbD 22 = true) : vectorBase s = 0xFFFFFFFFBFC00200#64 := if_pos h

theorem vectorBase_of_not_bev (h : s.cp0.status.getLsbD 22 = false) : vectorBase s = 0xFFFFFFFF80000000#64 :=
  if_neg (ne_true_of_eq_false h)

/-! ### The end of the step and the general registers -/

/-- The end of a step forces register 0 to 0, which every read of it gives anyway (R10 step 4, R21). -/
theorem readGpr_retire (r : Reg) (s : State) : readGpr r (retire s) = readGpr r s := by
  unfold readGpr
  split
  · rfl
  · rename_i hr
    have hne : 0 ≠ r.toNat := fun h => hr (BitVec.eq_of_toNat_eq h.symm)
    simp [retire, Vector.getElem_set_ne, hne]

/-! ### The fault registers (R504 to R506) -/

/-- Entry and the fault registers: the restart registers and Status apart, entry leaves what step 1 of R500 loaded. -/
theorem raise_faultRegisters (e : Exc) (s : State) :
    (raise e s).cp0.badVAddr = (loadFaultRegisters e s.cp0).badVAddr ∧
    (raise e s).cp0.context = (loadFaultRegisters e s.cp0).context ∧
    (raise e s).cp0.xContext = (loadFaultRegisters e s.cp0).xContext ∧
    (raise e s).cp0.entryHi = (loadFaultRegisters e s.cp0).entryHi := ⟨rfl, rfl, rfl, rfl⟩

/-- The exceptions of the TLB (R505), all with the faulting address. -/
def TlbException (e : Exc) (va : Word) : Prop := e = .tlbMod va ∨ (∃ y, e = .tlbl va y) ∨ ∃ y, e = .tlbs va y

theorem loadFaultRegisters_of_tlb {va : Word} (h : TlbException e va) (c : Cp0) :
    loadFaultRegisters e c = loadTlbFault va c := by
  obtain rfl | ⟨y, rfl⟩ | ⟨y, rfl⟩ := h <;> rfl

theorem loadFaultRegisters_of_addressError {va : Word} (h : e = .adel va ∨ e = .ades va) (c : Cp0) :
    loadFaultRegisters e c = { c with badVAddr := va } := by
  obtain rfl | rfl := h <;> rfl

theorem loadFaultRegisters_of_other
    (h : ∀ a, e ≠ .adel a ∧ e ≠ .ades a ∧ e ≠ .tlbMod a ∧ ∀ y, e ≠ .tlbl a y ∧ e ≠ .tlbs a y) (c : Cp0) :
    loadFaultRegisters e c = c := by
  cases e with
  | adel a => exact absurd rfl (h a).1
  | ades a => exact absurd rfl (h a).2.1
  | tlbMod a => exact absurd rfl (h a).2.2.1
  | tlbl a y => exact absurd rfl ((h a).2.2.2 y).1
  | tlbs a y => exact absurd rfl ((h a).2.2.2 y).2
  | _ => rfl

/-! ### The interrupt condition (R512) -/

theorem and_ne_zero_iff {n : Nat} (x y : BitVec n) :
    x &&& y ≠ 0 ↔ ∃ k < n, x.getLsbD k = true ∧ y.getLsbD k = true := by
  constructor
  · intro h
    by_contra hno
    push Not at hno
    refine h (BitVec.eq_of_getLsbD_eq fun k hk => ?_)
    cases hx : x.getLsbD k
    · simp [hx]
    · simp [hx, hno k hk hx]
  · rintro ⟨k, _, hx, hy⟩ h
    simpa [hx, hy] using congrArg (·.getLsbD k) h

/-! ### The return (R470) -/

theorem flipLatch32_ne (cfg : Config) (v : Word32) : flipLatch32 cfg v ≠ v := by
  have hflip : v ^^^ 0x80000000#32 ≠ v := by simp
  unfold flipLatch32
  split
  · exact hflip
  · split
    · exact hflip
    · assumption

theorem flipLatch64_ne (cfg : Config) (v : Word) : flipLatch64 cfg v ≠ v := by
  have hflip : v ^^^ 0x8000000000000000#64 ≠ v := by simp
  unfold flipLatch64
  split
  · exact hflip
  · split
    · exact hflip
    · assumption

theorem getLsbD_and_not_twoPow {n : Nat} (x : BitVec n) (j k : Nat) :
    (x &&& ~~~BitVec.twoPow n j).getLsbD k = (x.getLsbD k && decide (k ≠ j)) := by
  by_cases hk : k < n
  · simp [hk, eq_comm]
  · simp [BitVec.getLsbD_of_ge x k (by omega)]

end Sys2Proof.Machine

namespace Sys2Proof.Proofs

open Sys2Proof.Machine

/-- Settles O8: the codes are the table of R490; the two fields with an exception to the rule are case splits over it.
-/
theorem exceptionCodesAndVectors : Obligations.ExceptionCodesAndVectors := by
  unfold Obligations.ExceptionCodesAndVectors
  intro va n wide s
  exact ⟨rfl, rfl, fun _ => rfl, fun _ => rfl, rfl, rfl, rfl, rfl, rfl, rfl, rfl, rfl, rfl, rfl,
    fun _ h => excCoprocessor_of_not_unusable h, rfl, rfl, rfl, fun _ h => vectorOffset_of_not_refill h,
    vectorBase_of_bev, vectorBase_of_not_bev⟩

/-- Settles O9: `EXL` decides whether the restart address, `BD` and the exception's own vector are used. -/
theorem exceptionEntry : Obligations.ExceptionEntry := by
  unfold Obligations.ExceptionEntry
  intro e s
  dsimp only
  rw [raise_cause, raise_epc, causeOnEntry_bd]
  refine ⟨fun hexl hslot => ?_, fun hexl hslot => ?_, fun hexl => ?_, fun hexl => ?_, causeOnEntry_excCode e s,
    causeOnEntry_coprocessor e s, statusExl_raise e s, mode_raise e s, rfl, rfl⟩
  · simp [hexl, hslot, restartPc_of_delay]
  · simp [hexl, hslot, restartPc_of_not_delay]
  · simp [hexl]
  · simp [hexl]

/-- Settles O11: the three classes of exceptions, and for a TLB exception the insertions of R505 field by field. -/
theorem faultRegistersLoaded : Obligations.FaultRegistersLoaded := by
  unfold Obligations.FaultRegistersLoaded
  intro e s va
  dsimp only
  obtain ⟨hbad, hcontext, hxContext, hentryHi⟩ := raise_faultRegisters e s
  rw [hbad, hcontext, hxContext, hentryHi]
  refine ⟨fun htlb => ?tlb, fun haddr => ?address, fun hother => ?other⟩
  case tlb =>
    rw [loadFaultRegisters_of_tlb htlb]
    refine ⟨rfl, extractLsb'_insertField_same _ _ (by decide), ?_, extractLsb'_insertField_same _ _ (by decide), ?_,
      ?_, extractLsb'_insertField_same _ _ (by decide), ?_, ?_⟩
    · exact extractLsb'_insertField_disjoint _ _ (by decide) (by decide)
    · exact (extractLsb'_insertField_disjoint _ _ (by decide) (by decide)).trans
        (extractLsb'_insertField_same _ _ (by decide))
    · exact (extractLsb'_insertField_disjoint _ _ (by decide) (by decide)).trans
        (extractLsb'_insertField_disjoint _ _ (by decide) (by decide))
    · exact (extractLsb'_insertField_disjoint _ _ (by decide) (by decide)).trans
        (extractLsb'_insertField_same _ _ (by decide))
    · exact (extractLsb'_insertField_disjoint _ _ (by decide) (by decide)).trans
        (extractLsb'_insertField_disjoint _ _ (by decide) (by decide))
  case address =>
    rw [loadFaultRegisters_of_addressError haddr]
    exact ⟨rfl, rfl, rfl, rfl⟩
  case other =>
    rw [loadFaultRegisters_of_other hother]
    exact ⟨rfl, rfl, rfl, rfl⟩

/-- Settles O12: the two fields of eight bits meet in some bit. -/
theorem interruptCondition : Obligations.InterruptCondition := by
  unfold Obligations.InterruptCondition
  intro s
  simp only [interruptPending, Bool.and_eq_true, decide_eq_true_eq, and_ne_zero_iff, Bool.not_eq_true', statusExl,
    statusErl, statusBit, and_assoc, BitVec.getLsbD_extractLsb']
  refine and_congr_left' (exists_congr fun k => and_congr_right fun hk => ?_)
  simp [hk]

/-- Settles O13: the step is entry with code 0, then the end of the step; entry's clauses are read off for `EXL = 0`,
which a pending interrupt implies. -/
theorem interruptTakenAtStepStart : Obligations.InterruptTakenAtStepStart := by
  unfold Obligations.InterruptTakenAtStepStart
  rintro s b rfl hpending
  have hexl : statusExl (beginStep s) = false := by
    obtain ⟨_, _, hexl, _⟩ := (interruptCondition (beginStep s)).mp hpending
    exact hexl
  have hresolve := resolveBranchPipeline_of_exception (raise_branchState (s := beginStep s) .interrupt)
  refine ⟨retire (raise .interrupt (beginStep s)), ?step, ?pc, ?pipeline, ?epc, ?bd, ?code, ?exl, ?ip, ?rest⟩
  case step => simp [step, runStep, hpending, retireResult]
  case pc => simp [hresolve, hexl, vectorOffset]
  case pipeline => simp [hresolve]
  case epc => rw [retire_cp0, raise_epc, hexl]; rfl
  case bd => rw [retire_cp0, raise_cause, causeOnEntry_bd, hexl]; rfl
  case code => rw [retire_cp0, raise_cause, causeOnEntry_excCode]; rfl
  case exl => simp [statusExl, statusBit]
  case ip => rw [retire_cp0, raise_cause, causeOnEntry_ip]
  case rest =>
    refine ⟨fun r _ => (readGpr_retire r _).trans (readGpr_of_gpr r rfl), ?_⟩
    simp [HiLoSame, FprsSame, FpControlSame, MemorySame, LatchesSame, SystemRestSame]

/-- Settles O14: `ERL` decides the register and the bit; the pipeline state it leaves makes the end of the step keep the
program counter. -/
theorem exceptionReturn : Obligations.ExceptionReturn := by
  unfold Obligations.ExceptionReturn
  intro s husable
  have hresolve := resolveBranchPipeline_of_exception (s := returnFromException s) rfl
  refine ⟨returnFromException s, exec_eret_of_usable husable, fun herl => ⟨?_, fun k => ?_⟩, fun herl => ⟨?_,
    fun k => ?_⟩,
    ?_, ?_, flipLatch32_ne _ _, flipLatch64_ne _ _, fun r _ => readGpr_of_gpr r rfl, ?_⟩
  · simp [returnFromException, herl]
  · rw [← getLsbD_and_not_twoPow]
    simp only [returnFromException, herl]
    rfl
  · simp [returnFromException, herl]
  · rw [← getLsbD_and_not_twoPow]
    simp only [returnFromException, herl]
    rfl
  · rw [retire_pc, hresolve]
  · rw [retire_branchState, hresolve]
  · simp [HiLoSame, FprsSame, FpControlSame, MemorySame, SystemRestSame, OutsideSame]
    rfl

end Sys2Proof.Proofs
end

section
/-! SUPPORT. Reset (R540, R542), the ordinary step (R10) and a taken branch over two steps (R266). -/

namespace Sys2Proof.Machine

variable {s t : State} {w : Word32} {i : Instr}

/-! ### The state after reset -/

@[simp] theorem status_resetIn (c : Config) : (State.resetIn c).cp0.status = 0x00400004#32 := rfl

theorem mode_resetIn (c : Config) : mode (State.resetIn c) = some .kernel := by
  rw [mode_eq_modeOfStatus, status_resetIn]
  decide

theorem interruptPending_resetIn (c : Config) : interruptPending (State.resetIn c) = false := by
  simp [interruptPending, statusBit]

theorem translateFetch_resetIn {c : Config} (h : 36 ≤ c.paBits) :
    translateFetch (State.resetIn c) = .ok 0x1FC00000 := by
  have hwindow : classify .kernel (addr64 .kernel (State.resetIn c)) 0xFFFFFFFFBFC00000#64 = some .unmappedUncached :=
    classify_uncachedWindow _ (by decide) (by decide)
  have hpc : (State.resetIn c).pc = 0xFFFFFFFFBFC00000#64 := rfl
  have haligned : (State.resetIn c).pc.extractLsb' 0 2 = 0#2 := by rw [hpc]; decide
  have htranslate : translate (State.resetIn c) (State.resetIn c).pc .fetch = .ok (0x1FC00000, ⟨2#3, false⟩) := by
    rw [hpc, translate_of_unmapped (mode_resetIn c) (by decide) hwindow, translateUnmapped_eq_ok h]
    rfl
  simp [translateFetch, haligned, htranslate, Access.bind]

theorem mem_resetIn_tlb {c : Config} {e : TlbEntry} (h : e ∈ (State.resetIn c).tlb.toList) : e = TlbEntry.reset := by
  simpa [State.resetIn] using h

/-! ### A step that runs an instruction -/

theorem step_of_decoded (hpending : interruptPending (beginStep s) = false) (hfetch : fetchWord (beginStep s) = .ok w)
    (hdecode : decodeWord w = .instr i) : step s = retireResult (exec i (beginStep s)) := by
  simp [step, runStep, hpending, fetchAndExecute, hfetch, withAccess, executeWord, hdecode]

theorem cyclesOfStep_congr (hcfg : t.cfg = s.cfg) (hsteps : t.steps = s.steps) :
    cyclesOfStep t = cyclesOfStep s := by
  rw [cyclesOfStep, hcfg, hsteps]
  rfl

theorem retire_cycles_eq (s : State) : (retire s).cycles = s.cycles + BitVec.ofNat 64 (cyclesOfStep s) := by
  rw [← cyclesOfStep_congr (resolveBranchPipeline_cfg s) (resolveBranchPipeline_steps s),
    ← resolveBranchPipeline_cycles s]
  rfl

theorem retire_steps_eq (s : State) : (retire s).steps = s.steps + 1 :=
  congrArg (· + 1) (resolveBranchPipeline_steps s)

/-- The end of a step reaches these five fields alone. -/
theorem retire_rest (s : State) : { retire s with
    gpr := s.gpr, pc := s.pc, branchState := s.branchState, cycles := s.cycles, steps := s.steps } = s := by
  simp

/-! ### A taken branch -/

theorem exec_beq_taken {rs rt : Reg} {offset : Imm16} (heq : readGpr rs s = readGpr rt s) :
    exec (.beq rs rt offset) s = .next (takeBranch (branchTargetOf offset s) s) := if_pos (by simpa using heq)

end Sys2Proof.Machine

namespace Sys2Proof.Proofs

open Sys2Proof.Machine

/-- Settles O4: the stated values are those of `State.resetIn`; the first fetch lies in the uncached window. -/
theorem resetLeavesTheStatedValues : Obligations.ResetLeavesTheStatedValues := by
  unfold Obligations.ResetLeavesTheStatedValues
  refine ⟨fun c hpa => ?_, rfl, rfl, rfl, rfl⟩
  have hbe : c.beBitAgrees = true → c.configReset.getLsbD 15 = c.bigEndian := fun h => eq_of_beq h
  refine ⟨rfl, rfl, rfl, rfl, rfl, rfl, rfl, rfl, rfl, hbe, rfl, rfl, ?count, ?tlb, mode_resetIn c, ?narrow,
    interruptPending_resetIn c, ?coprocessors, translateFetch_resetIn hpa⟩
  case count => simp [countValue, elapsedCycles, State.resetIn]
  case tlb =>
    intro e he
    rw [mem_resetIn_tlb he]
    decide
  case narrow => simp [addr64, statusBit]
  case coprocessors =>
    have hstatus : ∀ n : BitVec 2, (0x00400004#32).getLsbD (28 + n.toNat) = false := by decide
    exact hstatus

/-- Settles O5: the four tests of a step go the way the premises say, and the end of the step is `retire`. -/
theorem stepRunsTheDecodedInstruction : Obligations.StepRunsTheDecodedInstruction := by
  unfold Obligations.StepRunsTheDecodedInstruction
  rintro s b w i rfl hpending hfetch hdecode
  have hstep := step_of_decoded hpending hfetch hdecode
  refine ⟨fun t hexec => ?next, fun f hexec => ?fault⟩
  case next =>
    refine ⟨by rw [hstep, hexec, retireResult], rfl, fun r _ => readGpr_retire r t, rfl, rfl, retire_cycles_eq t,
      retire_steps_eq t, retire_rest t⟩
  case fault => rw [hstep, hexec, retireResult]

/-- Settles O7: the branch leaves the pipeline in `branch` with its target, the end of its step in `delay` four bytes
on; an exception there restarts four bytes back. -/
theorem delaySlotRunsBeforeTheTarget : Obligations.DelaySlotRunsBeforeTheTarget := by
  unfold Obligations.DelaySlotRunsBeforeTheTarget
  intro s t rs rt offset hexec heq
  obtain rfl : takeBranch (branchTargetOf offset s) s = t := by
    simpa [exec_beq_taken heq] using hexec
  have hbranch := resolveBranchPipeline_of_branch (takeBranch_branchState (s := s) (branchTargetOf offset s))
  have hpc : (retire (takeBranch (branchTargetOf offset s) s)).pc = s.pc + 4 := by rw [retire_pc, hbranch]; rfl
  have hslot : (retire (takeBranch (branchTargetOf offset s) s)).branchState = .delay := by
    rw [retire_branchState, hbranch]
  refine ⟨hpc, hslot, fun u hdelay htarget => ?target, fun u e hu hdelay hexl => ?restart⟩
  case target =>
    rw [hslot] at hdelay
    rw [retire_pc, retire_branchState, resolveBranchPipeline_of_delay hdelay]
    exact ⟨htarget, rfl⟩
  case restart =>
    rw [hslot] at hdelay
    rw [raise_epc, raise_cause, causeOnEntry_bd, restartPc_of_delay hdelay, hu, hpc, hdelay]
    simp [hexl]

end Sys2Proof.Proofs
end

section
/-! SUPPORT. The timer (R520 to R523): Count as a function of the cycles, the deadline that arming sets, and the check. -/

namespace Sys2Proof.Machine

variable {s t : State}

/-! ### Count (R520, R521) -/

theorem elapsedCycles_eq_toNat (s : State) : elapsedCycles s = (s.cycles - s.countZeroTime).toNat := rfl

/-- Count after `n` more cycles, while the cycles since its zero do not wrap. -/
theorem countValue_after {n : Nat} (h : elapsedCycles s + n < 2 ^ 64) :
    countValue { rearm s with cycles := s.cycles + BitVec.ofNat 64 n } =
      BitVec.ofNat 32 ((elapsedCycles s + n) / s.cfg.countDiv) := by
  have helapsed : (s.cycles + BitVec.ofNat 64 n - s.countZeroTime).toNat = elapsedCycles s + n := by
    rw [elapsedCycles_eq_toNat] at h ⊢
    bv_omega
  rw [← helapsed]
  rfl

theorem countValue_writeCount (v : Word32) (hpos : 0 < s.cfg.countDiv) (hle : s.cfg.countDiv ≤ 2 ^ 32) :
    countValue (writeCount v s) = v := by
  have hlt : v.toNat * s.cfg.countDiv < 2 ^ 64 := by
    calc v.toNat * s.cfg.countDiv ≤ v.toNat * 2 ^ 32 := Nat.mul_le_mul_left _ hle
      _ < 2 ^ 64 := by have := v.isLt; omega
  have helapsed : elapsedCycles (writeCount v s) = v.toNat * s.cfg.countDiv := by
    have hzero : (writeCount v s).countZeroTime = s.cycles - BitVec.ofNat 64 (v.toNat * s.cfg.countDiv) := rfl
    rw [elapsedCycles_eq_toNat, hzero, writeCount_cycles]
    generalize v.toNat * s.cfg.countDiv = x at hlt
    bv_omega
  rw [countValue, helapsed, writeCount_cfg, Nat.mul_div_cancel _ hpos]
  simp

/-! ### Arming (R523) -/

theorem armedForNextMatch_rearm (s : State) : ArmedForNextMatch (rearm s) := ⟨rfl, rfl⟩

theorem countsToMatch_pos (s : State) : 0 < countsToMatch s := by
  unfold countsToMatch
  dsimp only
  split <;> omega

theorem countsToMatch_le (s : State) : countsToMatch s ≤ 2 ^ 32 := by
  unfold countsToMatch
  dsimp only
  split
  · omega
  · exact Nat.le_of_lt (s.cp0.compare - countValue s).isLt

/-- Count and the counts to the match spell Compare. -/
theorem countValue_add_countsToMatch (s : State) :
    countValue s + BitVec.ofNat 32 (countsToMatch s) = s.cp0.compare := by
  unfold countsToMatch
  dsimp only
  split <;> bv_omega

/-- A count of less than the counts to the match reaches Compare only when it is 0. -/
theorem eq_zero_of_count_match {q : Nat} (hq : q < countsToMatch s)
    (hmatch : countValue s + BitVec.ofNat 32 q = s.cp0.compare) : q = 0 := by
  unfold countsToMatch at hq
  dsimp only at hq
  split at hq <;> bv_omega

/-- How far ahead of `cycles` the armed deadline lies. -/
theorem deadline_rearm (hpos : 0 < s.cfg.countDiv) (hwrap : 2 ^ 32 * s.cfg.countDiv < 2 ^ 64) :
    ((rearm s).timerDeadline - s.cycles).toNat =
      countsToMatch s * s.cfg.countDiv - elapsedCycles s % s.cfg.countDiv := by
  have hmod := Nat.mod_lt (elapsedCycles s) hpos
  have hlow : s.cfg.countDiv ≤ countsToMatch s * s.cfg.countDiv := Nat.le_mul_of_pos_left _ (countsToMatch_pos s)
  have hhigh : countsToMatch s * s.cfg.countDiv ≤ 2 ^ 32 * s.cfg.countDiv :=
    Nat.mul_le_mul_right _ (countsToMatch_le s)
  have hdeadline : (rearm s).timerDeadline = s.cycles - BitVec.ofNat 64 (elapsedCycles s % s.cfg.countDiv) +
      BitVec.ofNat 64 (countsToMatch s * s.cfg.countDiv) := rfl
  rw [hdeadline]
  generalize elapsedCycles s % s.cfg.countDiv = x at *
  generalize countsToMatch s * s.cfg.countDiv = y at *
  bv_omega

/-! ### `Cause.IP7` -/

theorem causeWithIp_getLsbD {k j : Nat} (hk : k < 8) (level : Bool) (cause : Word32) :
    (causeWithIp k level cause).getLsbD j = if j = 8 + k then level else cause.getLsbD j := by
  by_cases hj : j < 32
  · rw [causeWithIp, getLsbD_insertField _ _ hj]
    by_cases hjk : j = 8 + k
    · simp [hjk]
    · rw [if_neg (by omega), if_neg hjk]
  · rw [BitVec.getLsbD_of_ge _ _ (by omega), BitVec.getLsbD_of_ge _ _ (by omega), if_neg (by omega)]

/-! ### The check at the deadline (R523) -/

theorem timerDue_iff : timerDue s = true ↔ s.compareArmed = true ∧ s.timerDeadline ≤ s.cycles := by
  simp [timerDue]

theorem toNat_nextDeadline (hdue : s.timerDeadline ≤ s.cycles)
    (hwrap : s.cycles.toNat + 2 ^ 32 * s.cfg.countDiv < 2 ^ 64) :
    (nextDeadline s).toNat = s.timerDeadline.toNat +
      ((s.cycles.toNat - s.timerDeadline.toNat) / (2 ^ 32 * s.cfg.countDiv) + 1) * (2 ^ 32 * s.cfg.countDiv) := by
  have hle : s.timerDeadline.toNat ≤ s.cycles.toNat := hdue
  have hdiv := Nat.div_mul_le_self (s.cycles.toNat - s.timerDeadline.toNat) (2 ^ 32 * s.cfg.countDiv)
  rw [Nat.add_mul, Nat.one_mul, nextDeadline,
    Nat.add_mul, Nat.one_mul]
  generalize (s.cycles.toNat - s.timerDeadline.toNat) / (2 ^ 32 * s.cfg.countDiv) * (2 ^ 32 * s.cfg.countDiv) = x at *
  bv_omega

end Sys2Proof.Machine

namespace Sys2Proof.Proofs

open Sys2Proof.Machine

/-- Settles O15: the four moves are `writeCount` or `writeCompare` of the low word, and both end by arming. -/
theorem countAndCompareWrites : Obligations.CountAndCompareWrites := by
  unfold Obligations.CountAndCompareWrites
  intro s rt i husable hpos hle
  dsimp only
  refine ⟨fun hi => ⟨writeCount (lo32 (readGpr rt s)) s, ?execCount, countValue_writeCount _ hpos hle, rfl,
    armedForNextMatch_rearm _, rfl, fun r _ => readGpr_of_gpr r rfl, ?frameCount⟩,
    fun hi => ⟨writeCompare (lo32 (readGpr rt s)) s, ?execCompare, rfl, fun k _ => ?cause, rfl, rfl,
    armedForNextMatch_rearm _, rfl, fun r _ => readGpr_of_gpr r rfl, ?frameCompare⟩⟩
  case execCount =>
    obtain rfl | rfl := hi
    · rw [exec_mtc0_of_usable rt 9 husable, cp0Write, if_pos rfl, lo32_sext32]
    · rw [exec_dmtc0_of_usable rt 9 husable, cp0Write, if_pos rfl]
  case execCompare =>
    obtain rfl | rfl := hi
    · rw [exec_mtc0_of_usable rt 11 husable, cp0Write, if_neg (by decide), if_pos rfl, lo32_sext32]
    · rw [exec_dmtc0_of_usable rt 11 husable, cp0Write, if_neg (by decide), if_pos rfl]
  case cause =>
    have hcause : (writeCompare (lo32 (readGpr rt s)) s).cp0.cause = causeWithIp 7 false s.cp0.cause := rfl
    rw [hcause, causeWithIp_getLsbD (by decide)]
    split <;> simp_all
  case frameCount | frameCompare =>
    simp [FlowSame, HiLoSame, FprsSame, FpControlSame, LatchesSame, MemorySame, OutsideSame]

/-- Settles O16: the deadline lies the counts to the match ahead, less the part of a count already elapsed; fewer
cycles are fewer counts, and of those only none at all can read as Compare. -/
theorem timerDeadlineIsTheNextMatch : Obligations.TimerDeadlineIsTheNextMatch := by
  unfold Obligations.TimerDeadlineIsTheNextMatch
  intro s hpos hwrap
  dsimp only
  have hk := countsToMatch_pos s
  rw [deadline_rearm hpos (by omega)]
  have hmod := Nat.mod_lt (elapsedCycles s) hpos
  have hsplit := Nat.div_add_mod (elapsedCycles s) s.cfg.countDiv
  have hlow : s.cfg.countDiv ≤ countsToMatch s * s.cfg.countDiv := Nat.le_mul_of_pos_left _ hk
  have hhigh : countsToMatch s * s.cfg.countDiv ≤ 2 ^ 32 * s.cfg.countDiv :=
    Nat.mul_le_mul_right _ (countsToMatch_le s)
  refine ⟨rfl, by omega, by omega, ?atDeadline, fun n hn0 hn hcount m hm => ?before⟩
  case atDeadline =>
    have hsum : elapsedCycles s + (countsToMatch s * s.cfg.countDiv - elapsedCycles s % s.cfg.countDiv) =
        s.cfg.countDiv * (elapsedCycles s / s.cfg.countDiv + countsToMatch s) := by
      rw [Nat.mul_add, Nat.mul_comm s.cfg.countDiv (countsToMatch s)]
      omega
    rw [countValue_after (by omega), hsum, Nat.mul_div_cancel_left _ hpos, BitVec.ofNat_add]
    exact countValue_add_countsToMatch s
  case before =>
    have hsame : (elapsedCycles s + n) / s.cfg.countDiv = elapsedCycles s / s.cfg.countDiv := by
      obtain ⟨q, hq⟩ := Nat.exists_eq_add_of_le (Nat.div_le_div_right (c := s.cfg.countDiv)
        (Nat.le_add_right (elapsedCycles s) n))
      have hlt : (elapsedCycles s + n) / s.cfg.countDiv < elapsedCycles s / s.cfg.countDiv + countsToMatch s := by
        rw [Nat.div_lt_iff_lt_mul hpos, Nat.add_mul, Nat.mul_comm (elapsedCycles s / s.cfg.countDiv)]
        omega
      rw [countValue_after (by omega), hq, BitVec.ofNat_add] at hcount
      have hzero := eq_zero_of_count_match (by omega) hcount
      omega
    have hm' : (elapsedCycles s + m) / s.cfg.countDiv = (elapsedCycles s + n) / s.cfg.countDiv :=
      Nat.le_antisymm (Nat.div_le_div_right (by omega))
        (hsame.le.trans (Nat.div_le_div_right (Nat.le_add_right _ _)))
    rw [← hcount, countValue_after (by omega), countValue_after (by omega), hm']

/-- Settles O17: when due, the whole periods added are one more than fit between the deadline and now. -/
theorem timerCheckRequestsAtTheDeadline : Obligations.TimerCheckRequestsAtTheDeadline := by
  unfold Obligations.TimerCheckRequestsAtTheDeadline
  intro s hpos hwrap
  dsimp only
  refine ⟨fun hdue => ?due, fun hnot => if_neg (fun h => hnot (timerDue_iff.mp h))⟩
  have hcheck : timerCheck s = { s with
      cp0 := { s.cp0 with cause := causeWithIp 7 true s.cp0.cause }, timerDeadline := nextDeadline s } :=
    if_pos (timerDue_iff.mpr hdue)
  have hnext := toNat_nextDeadline hdue.2 hwrap
  have hle : s.timerDeadline.toNat ≤ s.cycles.toNat := hdue.2
  have hperiod : 0 < 2 ^ 32 * s.cfg.countDiv := by omega
  have hmod := Nat.mod_lt (s.cycles.toNat - s.timerDeadline.toNat) hperiod
  have hsplit := Nat.div_add_mod' (s.cycles.toNat - s.timerDeadline.toNat) (2 ^ 32 * s.cfg.countDiv)
  rw [hcheck]
  refine ⟨?_, fun j hj => ?_, ?_, ?_, ⟨_, Nat.succ_pos _, hnext⟩, rfl⟩
  · simp only [causeWithIp_getLsbD (show 7 < 8 by decide)]
    rfl
  · simp only [causeWithIp_getLsbD (show 7 < 8 by decide)]
    exact if_neg hj
  · rw [hnext, Nat.add_mul]
    omega
  · rw [hnext, Nat.add_mul]
    omega

end Sys2Proof.Proofs
end

section
/-! SUPPORT. The integer results as exact integers, wrapped to their width (R170 to R232). -/

namespace Sys2Proof.Machine

variable {s : State} {i : Instr} {rd : Reg} {v w : Word}

/-! ### Bit vectors as wrapped integers -/

section Wrapping

variable {n : Nat} (x y : BitVec n) (k : Nat)

theorem add_eq_ofInt : x + y = BitVec.ofInt n (x.toInt + y.toInt) := by
  rw [BitVec.ofInt_add, BitVec.ofInt_toInt, BitVec.ofInt_toInt]

theorem sub_eq_ofInt : x - y = BitVec.ofInt n (x.toInt - y.toInt) := by
  rw [Int.sub_eq_add_neg, BitVec.ofInt_add, BitVec.ofInt_neg, BitVec.ofInt_toInt, BitVec.ofInt_toInt,
    ← BitVec.sub_eq_add_neg]

variable {x} in
theorem toNat_eq_zero_iff : x.toNat = 0 ↔ x = 0 := by simp [← BitVec.toNat_inj]

variable {x} in
theorem toInt_eq_zero_iff : x.toInt = 0 ↔ x = 0 := by simp [← BitVec.toInt_inj]

theorem shiftLeft_eq_ofInt : x <<< k = BitVec.ofInt n (x.toNat * 2 ^ k) := by
  have hcast : (x.toNat * 2 ^ k : Int) = ((x.toNat * 2 ^ k : Nat) : Int) := by push_cast; rfl
  rw [hcast, BitVec.ofInt_natCast]
  apply BitVec.eq_of_toNat_eq
  rw [BitVec.toNat_shiftLeft, BitVec.toNat_ofNat, Nat.shiftLeft_eq]

theorem ushiftRight_eq_ofInt : x >>> k = BitVec.ofInt n (x.toNat / 2 ^ k) := by
  have hcast : (x.toNat / 2 ^ k : Int) = ((x.toNat / 2 ^ k : Nat) : Int) := by push_cast; rfl
  have hlt := (x >>> k).isLt
  rw [hcast, BitVec.ofInt_natCast]
  apply BitVec.eq_of_toNat_eq
  rw [BitVec.toNat_ushiftRight, Nat.shiftRight_eq_div_pow] at hlt ⊢
  rw [BitVec.toNat_ofNat, Nat.mod_eq_of_lt hlt]

theorem sshiftRight_eq_ofInt : x.sshiftRight k = BitVec.ofInt n (x.toInt / 2 ^ k) := by
  rw [BitVec.sshiftRight_eq, Int.shiftRight_eq_div_pow]
  push_cast
  rfl

theorem udiv_eq_ofInt : x / y = BitVec.ofInt n ((x.toNat / y.toNat : Nat) : Int) := by
  rw [BitVec.ofInt_natCast, ← BitVec.toNat_udiv, BitVec.ofNat_toNat, BitVec.setWidth_eq]

theorem umod_eq_ofInt : x % y = BitVec.ofInt n ((x.toNat % y.toNat : Nat) : Int) := by
  rw [BitVec.ofInt_natCast, ← BitVec.toNat_umod, BitVec.ofNat_toNat, BitVec.setWidth_eq]

end Wrapping

/-- `sext32` of a wrapped 32-bit result. -/
theorem sext32_ofInt (x : Int) : sext32 (BitVec.ofInt 32 x) = wrap32 x :=
  congrArg (BitVec.ofInt 64) (BitVec.toInt_ofInt x)

theorem lo32_ofInt (p : Int) : lo32 (BitVec.ofInt 64 p) = BitVec.ofInt 32 p := by
  apply BitVec.eq_of_toNat_eq
  rw [toNat_lo32, BitVec.toNat_ofInt, BitVec.toNat_ofInt]
  omega

theorem hi32_ofInt (p : Int) : hi32 (BitVec.ofInt 64 p) = BitVec.ofInt 32 (p / 2 ^ 32) := by
  apply BitVec.eq_of_toNat_eq
  rw [hi32, BitVec.extractLsb'_toNat, BitVec.toNat_ofInt, BitVec.toNat_ofInt, Nat.shiftRight_eq_div_pow]
  omega

/-! ### Immediates -/

theorem toInt_immSigned (imm : Imm16) : (immSigned imm).toInt = imm.toInt :=
  BitVec.toInt_signExtend_of_le (by decide)

theorem immSigned_eq_ofInt (imm : Imm16) : immSigned imm = BitVec.ofInt 64 imm.toInt := rfl

theorem toInt_lo32_immSigned (imm : Imm16) : (lo32 (immSigned imm)).toInt = imm.toInt := by
  rw [immSigned_eq_ofInt, lo32_ofInt]
  have hlow := BitVec.le_toInt imm
  have hhigh := BitVec.toInt_lt (x := imm)
  exact BitVec.toInt_ofInt_eq_self (by decide) (by omega) (by omega)

theorem immUpper_eq_wrap32 (imm : Imm16) : immUpper imm = wrap32 (imm.toInt * 65536) := by
  rw [immUpper, ← sext32_ofInt]
  congr 1
  apply BitVec.eq_of_toNat_eq
  have := imm.isLt
  rw [BitVec.toNat_shiftLeft, BitVec.toNat_setWidth, BitVec.toNat_ofInt, Nat.shiftLeft_eq,
    BitVec.toInt_eq_toNat_cond]
  split <;> omega

theorem getLsbD_immZero (imm : Imm16) {k : Nat} (hk : k < 64) :
    (immZero imm).getLsbD k = (decide (k < 16) && imm.getLsbD k) := by
  rw [immZero, BitVec.getLsbD_setWidth]
  by_cases h16 : k < 16
  · simp [hk, h16]
  · simp [h16, BitVec.getLsbD_of_ge imm k (by omega)]

/-! ### Instructions with a register result -/

theorem writesGpr_of_exec_eq (h : exec i s = .next (writeGpr rd w s)) (hv : w = v) : WritesGpr i s rd v :=
  hv ▸ writesGpr_of_exec h

/-- The result of an addition or subtraction that may trap (R170). -/
def trapOrWrite (s : State) (rd : Reg) (n : Nat) (exact : Int) (v : Word) : Result :=
  if s.cfg.overflowTraps && outOfRange n exact then .next (raise .overflow s) else .next (writeGpr rd v s)

theorem outOfRange_eq_false_iff (n : Nat) (x : Int) :
    outOfRange n x = false ↔ -(2 : Int) ^ (n - 1) ≤ x ∧ x ≤ (2 : Int) ^ (n - 1) - 1 := by
  simp [outOfRange]

theorem writesGpr_of_trapOrWrite {n : Nat} {x : Int} (h : exec i s = trapOrWrite s rd n x w) (hw : w = v)
    (hfits : s.cfg.overflowTraps = false ∨ -(2 : Int) ^ (n - 1) ≤ x ∧ x ≤ (2 : Int) ^ (n - 1) - 1) :
    WritesGpr i s rd v := by
  rw [← outOfRange_eq_false_iff] at hfits
  refine writesGpr_of_exec_eq (h.trans (if_neg ?_)) hw
  obtain h | h := hfits <;> simp [h]

theorem raises_of_trapOrWrite {n : Nat} {x : Int} (h : exec i s = trapOrWrite s rd n x w)
    (hexceeds : s.cfg.overflowTraps = true ∧ ¬ (-(2 : Int) ^ (n - 1) ≤ x ∧ x ≤ (2 : Int) ^ (n - 1) - 1)) :
    Raises i s .overflow := by
  rw [← outOfRange_eq_false_iff, Bool.not_eq_false] at hexceeds
  exact h.trans (if_pos (by simp [hexceeds.1, hexceeds.2]))

theorem boolWord_decide (p : Prop) [Decidable p] : boolWord (decide p) = if p then 1 else 0 := by
  simp [boolWord]

theorem shift5_eq (rs : Reg) (s : State) : shift5 rs s = (readGpr rs s).toNat % 32 := by
  simp [shift5, BitVec.extractLsb'_toNat]

theorem shift6_eq (rs : Reg) (s : State) : shift6 rs s = (readGpr rs s).toNat % 64 := by
  simp [shift6, BitVec.extractLsb'_toNat]

/-! ### `hi` and `lo` -/

theorem writesHiLo_of_exec_eq {hi lo h l : Word} (e : exec i s = .next (writeHiLo h l s)) (hh : h = hi)
    (hl : l = lo) : WritesHiLo i s hi lo := hh ▸ hl ▸ writesHiLo_of_exec e

/-- The halves of a signed 128-bit number. -/
theorem halves_of_signed {p : Int} (hlow : -2 ^ 127 ≤ p) (hhigh : p < 2 ^ 127) :
    ((BitVec.ofInt 128 p).extractLsb' 64 64).toInt * 2 ^ 64 + ((BitVec.ofInt 128 p).extractLsb' 0 64).toNat = p := by
  rw [BitVec.toInt_eq_toNat_cond, BitVec.extractLsb'_toNat, BitVec.extractLsb'_toNat, BitVec.toNat_ofInt,
    Nat.shiftRight_eq_div_pow, Nat.shiftRight_eq_div_pow]
  split <;> omega

/-- The halves of an unsigned 128-bit number. -/
theorem halves_of_unsigned {p : Nat} (hlt : p < 2 ^ 128) :
    ((BitVec.ofNat 128 p).extractLsb' 64 64).toNat * 2 ^ 64 + ((BitVec.ofNat 128 p).extractLsb' 0 64).toNat = p := by
  rw [BitVec.extractLsb'_toNat, BitVec.extractLsb'_toNat, BitVec.toNat_ofNat, Nat.shiftRight_eq_div_pow,
    Nat.shiftRight_eq_div_pow]
  omega

/-! ### Divisions (R225 to R228) -/

/-- Quotient rounded toward zero and remainder of the dividend's sign, of a non-zero divisor. -/
theorem tdiv_remainder_spec (n : Int) {d : Int} (hd : d ≠ 0) :
    n = n.tdiv d * d + (n - n.tdiv d * d) ∧ |n - n.tdiv d * d| < |d| ∧
      (n - n.tdiv d * d = 0 ∨ (0 < n - n.tdiv d * d ↔ 0 < n)) := by
  have hrem : n - n.tdiv d * d = n.tmod d := by rw [Int.tmod_def, Int.mul_comm]
  rw [hrem]
  refine ⟨by omega, ?size, ?sign⟩
  case size =>
    have hlt : (n.tmod d).natAbs < d.natAbs := by
      rw [Int.natAbs_tmod]
      exact Nat.mod_lt _ (Int.natAbs_pos.mpr hd)
    rwa [Int.abs_eq_natAbs, Int.abs_eq_natAbs, Int.ofNat_lt]
  case sign =>
    obtain hn | hn := lt_or_ge 0 n
    · have hnonneg := Int.tmod_nonneg d hn.le
      omega
    · have hnonneg := Int.tmod_nonneg d (Int.neg_nonneg.mpr hn)
      rw [Int.neg_tmod] at hnonneg
      omega

/-- A division by zero completes with some values (U1). -/
theorem writesHiLo_of_drawHiLo (h : exec i s = .next (drawHiLo s)) : ∃ hi lo, WritesHiLo i s hi lo :=
  ⟨_, _, _, h, rfl, rfl, fun r _ => readGpr_of_gpr r rfl, by
    simp [FlowSame, FprsSame, FpControlSame, Cp0Same, SystemRestSame, LatchesSame, MemorySame, OutsideSame]⟩

end Sys2Proof.Machine

namespace Sys2Proof.Proofs

open Sys2Proof.Machine

/-- Settles O29: each result is the wrapped exact sum or difference. -/
theorem wrappingAddAndSubtract : Obligations.WrappingAddAndSubtract := by
  unfold Obligations.WrappingAddAndSubtract
  intro s rd rs rt imm
  refine ⟨writesGpr_of_exec_eq rfl ?addu, writesGpr_of_exec_eq rfl ?subu, writesGpr_of_exec_eq rfl (add_eq_ofInt _ _),
    writesGpr_of_exec_eq rfl (sub_eq_ofInt _ _), writesGpr_of_exec_eq rfl ?addiu, writesGpr_of_exec_eq rfl ?daddiu⟩
  case addu => rw [add_eq_ofInt, sext32_ofInt]; rfl
  case subu => rw [sub_eq_ofInt, sext32_ofInt]; rfl
  case addiu => rw [add_eq_ofInt, sext32_ofInt, toInt_lo32_immSigned]; rfl
  case daddiu => rw [add_eq_ofInt, toInt_immSigned]; rfl

/-- Settles O30: the six share `trapOrWrite`, on the exact result. -/
theorem trappingAddAndSubtract : Obligations.TrappingAddAndSubtract := by
  unfold Obligations.TrappingAddAndSubtract
  intro s rd rs rt imm
  have hadd : exec (.add rd rs rt) s = trapOrWrite s rd 32 _ _ := rfl
  have hsub : exec (.sub rd rs rt) s = trapOrWrite s rd 32 _ _ := rfl
  have haddi : exec (.addi rt rs imm) s = trapOrWrite s rt 32 _ _ := rfl
  have hdadd : exec (.dadd rd rs rt) s = trapOrWrite s rd 64 _ _ := rfl
  have hdsub : exec (.dsub rd rs rt) s = trapOrWrite s rd 64 _ _ := rfl
  have hdaddi : exec (.daddi rt rs imm) s = trapOrWrite s rt 64 _ _ := rfl
  rw [toInt_lo32_immSigned] at haddi
  rw [toInt_immSigned] at hdaddi
  refine ⟨⟨writesGpr_of_trapOrWrite hadd ?add, raises_of_trapOrWrite hadd⟩,
    ⟨writesGpr_of_trapOrWrite hsub ?sub, raises_of_trapOrWrite hsub⟩,
    ⟨writesGpr_of_trapOrWrite haddi ?addi, raises_of_trapOrWrite haddi⟩,
    ⟨writesGpr_of_trapOrWrite hdadd (add_eq_ofInt _ _), raises_of_trapOrWrite hdadd⟩,
    ⟨writesGpr_of_trapOrWrite hdsub (sub_eq_ofInt _ _), raises_of_trapOrWrite hdsub⟩,
    ⟨writesGpr_of_trapOrWrite hdaddi ?daddi, raises_of_trapOrWrite hdaddi⟩⟩
  case add => rw [add_eq_ofInt, sext32_ofInt]; rfl
  case sub => rw [sub_eq_ofInt, sext32_ofInt]; rfl
  case addi => rw [add_eq_ofInt, sext32_ofInt, toInt_lo32_immSigned]; rfl
  case daddi => rw [add_eq_ofInt, toInt_immSigned]; rfl

/-- Settles O31: the bits of the four operators, and the value of a comparison. -/
theorem logicalAndCompareResults : Obligations.LogicalAndCompareResults := by
  unfold Obligations.LogicalAndCompareResults
  intro s rd rs rt imm
  refine ⟨⟨_, fun k hk => ?and, writesGpr_of_exec rfl⟩, ⟨_, fun k hk => ?or, writesGpr_of_exec rfl⟩,
    ⟨_, fun k hk => ?xor, writesGpr_of_exec rfl⟩, ⟨_, fun k hk => ?nor, writesGpr_of_exec rfl⟩,
    ⟨_, fun k hk => ?andi, writesGpr_of_exec rfl⟩, ⟨_, fun k hk => ?ori, writesGpr_of_exec rfl⟩,
    ⟨_, fun k hk => ?xori, writesGpr_of_exec rfl⟩, writesGpr_of_exec_eq rfl (immUpper_eq_wrap32 imm),
    writesGpr_of_exec_eq rfl ?slt, writesGpr_of_exec_eq rfl (boolWord_decide _), writesGpr_of_exec_eq rfl ?slti,
    writesGpr_of_exec_eq rfl (boolWord_decide _)⟩
  case and => exact BitVec.getLsbD_and
  case or => exact BitVec.getLsbD_or
  case xor => exact BitVec.getLsbD_xor
  case nor => rw [BitVec.getLsbD_not, BitVec.getLsbD_or, decide_eq_true hk, Bool.true_and]
  case andi =>
    rw [BitVec.getLsbD_and, getLsbD_immZero imm hk]
    exact Bool.and_left_comm _ _ _
  case ori => rw [BitVec.getLsbD_or, getLsbD_immZero imm hk]
  case xori => rw [BitVec.getLsbD_xor, getLsbD_immZero imm hk]
  case slt => rw [BitVec.slt_eq_decide, boolWord_decide]
  case slti => rw [BitVec.slt_eq_decide, boolWord_decide, toInt_immSigned]

/-- Settles O32: the three shifts of any width, for a fixed amount, and the amounts of the variable ones. -/
theorem shiftResults : Obligations.ShiftResults := by
  unfold Obligations.ShiftResults
  intro s rd rt rs sa _
  dsimp only
  rw [← shift5_eq, ← shift6_eq]
  have hleft : ∀ (v : Word32) k, sext32 (v <<< k) = wrap32 (v.toNat * 2 ^ k) := fun v k => by
    rw [shiftLeft_eq_ofInt, sext32_ofInt]
  have hright : ∀ (v : Word32) k, sext32 (v >>> k) = wrap32 (v.toNat / 2 ^ k) := fun v k => by
    rw [ushiftRight_eq_ofInt, sext32_ofInt]
  have harith : ∀ (v : Word32) k, sext32 (v.sshiftRight k) = wrap32 (v.toInt / 2 ^ k) := fun v k => by
    rw [sshiftRight_eq_ofInt, sext32_ofInt]
  exact ⟨writesGpr_of_exec_eq rfl (hleft _ _), writesGpr_of_exec_eq rfl (hright _ _),
    writesGpr_of_exec_eq rfl (harith _ _), writesGpr_of_exec_eq rfl (hleft _ _),
    writesGpr_of_exec_eq rfl (hright _ _), writesGpr_of_exec_eq rfl (harith _ _),
    writesGpr_of_exec_eq rfl (shiftLeft_eq_ofInt _ _), writesGpr_of_exec_eq rfl (ushiftRight_eq_ofInt _ _),
    writesGpr_of_exec_eq rfl (sshiftRight_eq_ofInt _ _), writesGpr_of_exec_eq rfl (shiftLeft_eq_ofInt _ _),
    writesGpr_of_exec_eq rfl (ushiftRight_eq_ofInt _ _), writesGpr_of_exec_eq rfl (sshiftRight_eq_ofInt _ _),
    writesGpr_of_exec_eq rfl (shiftLeft_eq_ofInt _ _), writesGpr_of_exec_eq rfl (ushiftRight_eq_ofInt _ _),
    writesGpr_of_exec_eq rfl (sshiftRight_eq_ofInt _ _)⟩

/-- Settles O33: the halves of a 64-bit product by `hi32_ofInt`, of a 128-bit one by its range. -/
theorem productsAndHiLoMoves : Obligations.ProductsAndHiLoMoves := by
  unfold Obligations.ProductsAndHiLoMoves
  intro s rs rt
  dsimp only
  refine ⟨⟨_, _, ⟨rfl, rfl⟩, writesHiLo_of_exec_eq rfl ?multHi ?multLo⟩,
    ⟨_, _, ⟨rfl, rfl⟩, writesHiLo_of_exec_eq rfl ?multuHi ?multuLo⟩,
    ⟨_, _, halves_of_signed ?low ?high, writesHiLo_of_exec rfl⟩,
    ⟨_, _, halves_of_unsigned ?bound, writesHiLo_of_exec rfl⟩, writesGpr_of_exec rfl, writesGpr_of_exec rfl,
    writesHiLo_of_exec rfl, writesHiLo_of_exec rfl⟩
  case multHi => rw [hi32_ofInt, sext32_ofInt]; rfl
  case multLo => rw [lo32_ofInt, sext32_ofInt]; rfl
  case multuHi => rw [← BitVec.ofInt_natCast, hi32_ofInt, sext32_ofInt]; push_cast; rfl
  case multuLo => rw [← BitVec.ofInt_natCast, lo32_ofInt, sext32_ofInt]; push_cast; rfl
  case low => exact le_trans (by decide) (BitVec.le_toInt_mul_toInt (w := 64))
  case high => exact lt_of_le_of_lt (BitVec.toInt_mul_toInt_le (w := 64)) (by decide)
  case bound =>
    have hlt : (readGpr rs s).toNat * (readGpr rt s).toNat < 2 ^ 64 * 2 ^ 64 :=
      Nat.mul_lt_mul'' (readGpr rs s).isLt (readGpr rt s).isLt
    omega

/-- Settles O34: the model's quotient is truncated division; a zero divisor draws two values. -/
theorem divisions : Obligations.Divisions := by
  unfold Obligations.Divisions
  intro s rs rt
  dsimp only
  refine ⟨fun hd => ⟨_, _, tdiv_remainder_spec _ hd, ?div⟩,
    fun hd => ⟨_, _, (Nat.div_add_mod' _ _).symm, Nat.mod_lt _ (Nat.pos_of_ne_zero hd), ?divu⟩,
    fun hd => ⟨_, _, tdiv_remainder_spec _ (mt toInt_eq_zero_iff.mp hd), ?ddiv⟩,
    fun hd => ⟨_, _, (Nat.div_add_mod' _ _).symm, Nat.mod_lt _ (Nat.pos_of_ne_zero (mt toNat_eq_zero_iff.mp hd)),
      ?ddivu⟩,
    fun hd => writesHiLo_of_drawHiLo ?divZero, fun hd => writesHiLo_of_drawHiLo ?divuZero,
    fun hd => writesHiLo_of_drawHiLo ?ddivZero, fun hd => writesHiLo_of_drawHiLo ?ddivuZero⟩
  case div =>
    have hd' : lo32 (readGpr rt s) ≠ 0 := mt toInt_eq_zero_iff.mpr hd
    exact writesHiLo_of_exec_eq (congrArg _ (if_neg hd')) (sext32_ofInt _) (sext32_ofInt _)
  case divu =>
    have hd' : lo32 (readGpr rt s) ≠ 0 := mt toNat_eq_zero_iff.mpr hd
    refine writesHiLo_of_exec_eq (congrArg _ (if_neg hd')) ?_ ?_
    · rw [umod_eq_ofInt, sext32_ofInt]; rfl
    · rw [udiv_eq_ofInt, sext32_ofInt]; rfl
  case ddiv => exact writesHiLo_of_exec (congrArg _ (if_neg hd))
  case ddivu =>
    exact writesHiLo_of_exec_eq (congrArg _ (if_neg hd)) (umod_eq_ofInt _ _) (udiv_eq_ofInt _ _)
  case divZero => exact congrArg _ (if_pos (toInt_eq_zero_iff.mp hd))
  case divuZero => exact congrArg _ (if_pos (toNat_eq_zero_iff.mp hd))
  case ddivZero | ddivuZero => exact congrArg _ (if_pos hd)

end Sys2Proof.Proofs
end

section
/-! SUPPORT. Jumps, conditional branches, traps and the system instructions (R242 to R265, R330 to R348). -/

namespace Sys2Proof.Machine

variable {s : State} {i : Instr} {b : Bool} {c : Prop} {target : Word}

/-! ### Targets (R246, R250) -/

theorem branchTargetOf_eq (offset : Imm16) (s : State) :
    branchTargetOf offset s = s.pc + 4 + BitVec.ofInt 64 (offset.toInt * 4) := by
  have hshift : immSigned offset <<< 2 = BitVec.ofInt 64 (offset.toInt * 4) := by
    rw [BitVec.ofInt_mul, ← immSigned_eq_ofInt, BitVec.shiftLeft_eq_mul_twoPow]
    rfl
  rw [branchTargetOf, hshift]
  rfl

theorem jumpTargetOf_eq (target : BitVec 26) (s : State) :
    jumpTargetOf target s = BitVec.ofNat 64 ((s.pc + 4).toNat / 2 ^ 28 * 2 ^ 28 + target.toNat * 4) := by
  have hpc := (s.pc + 4).isLt
  have htarget := target.isLt
  apply BitVec.eq_of_toNat_eq
  rw [jumpTargetOf, BitVec.toNat_setWidth, BitVec.toNat_append, BitVec.toNat_append, BitVec.extractLsb'_toNat,
    ← Nat.shiftLeft_add_eq_or_of_lt htarget, ← Nat.shiftLeft_add_eq_or_of_lt (by decide), BitVec.toNat_ofNat,
    BitVec.toNat_ofNat, Nat.shiftRight_eq_div_pow, Nat.shiftLeft_eq, Nat.shiftLeft_eq]
  omega

/-! ### Branches on a condition (R242, R245): `b` is the model's test of `c` -/

theorem branchIf_rule (h : exec i s = branchIf b target s) (hb : b = true ↔ c) :
    (c → Branches i s target none) ∧ (¬ c → FallsThrough i s false none) :=
  ⟨fun hc => branches_of_exec (h.trans (if_pos (hb.mpr hc))),
    fun hc => fallsThrough_of_exec (h.trans (if_neg (mt hb.mp hc)))⟩

theorem branchLikelyIf_rule (h : exec i s = branchLikelyIf b target s) (hb : b = true ↔ c) :
    (c → Branches i s target none) ∧ (¬ c → FallsThrough i s true none) :=
  ⟨fun hc => branches_of_exec (h.trans (if_pos (hb.mpr hc))),
    fun hc => fallsThrough_nullify_of_exec (h.trans (if_neg (mt hb.mp hc)))⟩

/-- What a linking branch leaves when it is not taken: the link alone. -/
theorem onlyFlowAndLink_writeLink (s : State) : OnlyFlowAndLink [31] s (writeLink s) := by
  refine ⟨fun r hr => readGpr_writeGpr_other 31 r _ (by simpa using hr), ?_⟩
  simp [HiLoSame, FprsSame, FpControlSame, Cp0Same, SystemRestSame, LatchesSame, MemorySame, OutsideSame]

theorem readLink {p : Reg × Word} (hp : some ((31 : Reg), s.pc + 8) = some p) (hne : p.1 ≠ 0) :
    readGpr p.1 (writeLink s) = p.2 := by
  cases hp
  exact readGpr_writeGpr_same 31 _ hne

theorem fallsThrough_link_of_exec (h : exec i s = .next (writeLink s)) :
    FallsThrough i s false (some (31, s.pc + 8)) :=
  ⟨_, h, by simp, by simp, fun _ hp hne => readLink hp hne, onlyFlowAndLink_writeLink s⟩

theorem fallsThrough_link_nullify_of_exec (h : exec i s = .next (nullifySlot (writeLink s))) :
    FallsThrough i s true (some (31, s.pc + 8)) :=
  ⟨_, h, by simp, by simp, fun _ hp hne => readLink hp hne, onlyFlowAndLink_writeLink s⟩

theorem branchIf_link_rule (h : exec i s = branchIf b target (writeLink s)) (hb : b = true ↔ c) :
    (c → Branches i s target (some (31, s.pc + 8))) ∧ (¬ c → FallsThrough i s false (some (31, s.pc + 8))) :=
  ⟨fun hc => branches_link_of_exec (h.trans (if_pos (hb.mpr hc))),
    fun hc => fallsThrough_link_of_exec (h.trans (if_neg (mt hb.mp hc)))⟩

theorem branchLikelyIf_link_rule (h : exec i s = branchLikelyIf b target (writeLink s)) (hb : b = true ↔ c) :
    (c → Branches i s target (some (31, s.pc + 8))) ∧ (¬ c → FallsThrough i s true (some (31, s.pc + 8))) :=
  ⟨fun hc => branches_link_of_exec (h.trans (if_pos (hb.mpr hc))),
    fun hc => fallsThrough_link_nullify_of_exec (h.trans (if_neg (mt hb.mp hc)))⟩

/-! ### The conditions -/

theorem gprNegative_iff (r : Reg) (s : State) : gprNegative r s = true ↔ (readGpr r s).toInt < 0 :=
  BitVec.slt_iff_toInt_lt

theorem not_gprNegative_iff (r : Reg) (s : State) : (!gprNegative r s) = true ↔ 0 ≤ (readGpr r s).toInt := by
  rw [Bool.not_eq_true', ← Bool.not_eq_true, gprNegative_iff, Int.not_lt]

theorem gprNotPositive_iff (r : Reg) (s : State) : gprNotPositive r s = true ↔ (readGpr r s).toInt ≤ 0 :=
  BitVec.sle_iff_toInt_le

theorem not_gprNotPositive_iff (r : Reg) (s : State) : (!gprNotPositive r s) = true ↔ 0 < (readGpr r s).toInt := by
  rw [Bool.not_eq_true', ← Bool.not_eq_true, gprNotPositive_iff, Int.not_le]

theorem not_slt_iff (x y : Word) : (!x.slt y) = true ↔ y.toInt ≤ x.toInt := by
  rw [Bool.not_eq_true', ← Bool.not_eq_true, BitVec.slt_iff_toInt_lt, Int.not_lt]

theorem not_ult_iff (x y : Word) : (!x.ult y) = true ↔ y.toNat ≤ x.toNat := by
  rw [Bool.not_eq_true', ← Bool.not_eq_true, BitVec.ult_iff_toNat_lt, Nat.not_lt]

theorem not_eq_true_iff_eq_false : (!b) = true ↔ b = false := by simp

/-! ### Traps (R330) -/

theorem trapIf_rule (h : exec i s = trapIf b s) (hb : b = true ↔ c) :
    (c → Raises i s .trap) ∧ (¬ c → DoesNothing i s) :=
  ⟨fun hc => h.trans (if_pos (hb.mpr hc)), fun hc => h.trans (if_neg (mt hb.mp hc))⟩

end Sys2Proof.Machine

namespace Sys2Proof.Proofs

open Sys2Proof.Machine

/-- Settles O35: the link, where there is one, is written to the register before the branch is taken. -/
theorem jumps : Obligations.Jumps := by
  unfold Obligations.Jumps
  intro s target rd rs
  dsimp only
  rw [← jumpTargetOf_eq]
  exact ⟨branches_of_exec rfl, branches_link_of_exec rfl, branches_of_exec rfl, branches_link_of_exec rfl⟩

/-- Settles O36: each form is one of the four kinds of branch on its condition. -/
theorem conditionalBranches : Obligations.ConditionalBranches := by
  unfold Obligations.ConditionalBranches
  intro s rs rt cc offset _
  dsimp only
  rw [← branchTargetOf_eq]
  have hneg := gprNegative_iff rs s
  have hnonneg := not_gprNegative_iff rs s
  have hnonpos := gprNotPositive_iff rs s
  have hpos := not_gprNotPositive_iff rs s
  refine ⟨branchIf_rule rfl decide_eq_true_iff, branchIf_rule rfl decide_eq_true_iff, branchIf_rule rfl hnonpos,
    branchIf_rule rfl hpos, branchIf_rule rfl hneg, branchIf_rule rfl hnonneg,
    branchLikelyIf_rule rfl decide_eq_true_iff, branchLikelyIf_rule rfl decide_eq_true_iff,
    branchLikelyIf_rule rfl hnonpos, branchLikelyIf_rule rfl hpos, branchLikelyIf_rule rfl hneg,
    branchLikelyIf_rule rfl hnonneg, branchIf_link_rule rfl hneg, branchIf_link_rule rfl hnonneg,
    branchLikelyIf_link_rule rfl hneg, branchLikelyIf_link_rule rfl hnonneg, fun hcp1 => ?cop1, fun hcp0 => ?cop0⟩
  case cop1 =>
    exact ⟨branchIf_rule (requireCp1_of_enabled hcp1) not_eq_true_iff_eq_false,
      branchIf_rule (requireCp1_of_enabled hcp1) Iff.rfl,
      branchLikelyIf_rule (requireCp1_of_enabled hcp1) not_eq_true_iff_eq_false,
      branchLikelyIf_rule (requireCp1_of_enabled hcp1) Iff.rfl⟩
  case cop0 =>
    exact ⟨branchIf_rule (requireCp0_of_usable hcp0) not_eq_true_iff_eq_false,
      branchIf_rule (requireCp0_of_usable hcp0) Iff.rfl⟩

/-- Settles O37: each form is `trapIf` on its comparison. -/
theorem conditionalTraps : Obligations.ConditionalTraps := by
  unfold Obligations.ConditionalTraps
  intro s rs rt code imm
  dsimp only
  rw [← toInt_immSigned]
  exact ⟨trapIf_rule rfl (not_slt_iff _ _), trapIf_rule rfl (not_ult_iff _ _),
    trapIf_rule rfl BitVec.slt_iff_toInt_lt, trapIf_rule rfl BitVec.ult_iff_toNat_lt,
    trapIf_rule rfl decide_eq_true_iff, trapIf_rule rfl decide_eq_true_iff, trapIf_rule rfl (not_slt_iff _ _),
    trapIf_rule rfl (not_ult_iff _ _), trapIf_rule rfl BitVec.slt_iff_toInt_lt,
    trapIf_rule rfl BitVec.ult_iff_toNat_lt,
    trapIf_rule rfl (decide_eq_true_iff.trans BitVec.toInt_inj.symm),
    trapIf_rule rfl (decide_eq_true_iff.trans BitVec.toInt_inj.symm.not)⟩

/-- Settles O38: the two exceptions and the no-ops are the instructions' meanings; the coprocessor 2 opcodes share one
fault. -/
theorem systemCallsNoOpsAndCoprocessor2 : Obligations.SystemCallsNoOpsAndCoprocessor2 := by
  unfold Obligations.SystemCallsNoOpsAndCoprocessor2
  intro s code stype op cofun rt base offset
  have hfault := coprocessor2Fault_eq s
  exact ⟨rfl, rfl, rfl, fun hcp0 => requireCp0_of_usable hcp0, hfault, hfault, hfault, hfault, hfault⟩

end Sys2Proof.Proofs
end

section
/-! SUPPORT. Accesses that complete (R280 to R306, R372 to R375): loads into a register, stores of byte lanes, the
linked loads and the store-conditionals. -/

namespace Sys2Proof.Machine

variable {s t : State} {i : Instr} {va : Word} {n pa : Nat} {rd : Reg}

/-! ### Loads into a general register -/

theorem toNat_lo32_of_lt {w : Word} (h : w.toNat < 2 ^ 32) : (lo32 w).toNat = w.toNat := by
  rw [toNat_lo32, Nat.mod_eq_of_lt h]

/-- Sign extension of the number that the bytes spell. -/
theorem sext_eq {w : Word} {x : Nat} (n : Nat) (hw : w.toNat = x) :
    sext (8 * n) w = BitVec.ofInt 64 ((x : Int).bmod (256 ^ n)) := by
  have hpow : (256 : Nat) ^ n = 2 ^ (8 * n) := by rw [Nat.pow_mul]
  rw [sext, hpow, ← hw, ← BitVec.toInt_setWidth]
  rfl

/-- Zero extension of the number that the bytes spell. -/
theorem zext_eq {w : Word} {x : Nat} (n : Nat) (hw : w.toNat = x) (hlt : x < 256 ^ n) :
    zext (8 * n) w = BitVec.ofNat 64 x := by
  have hpow : (256 : Nat) ^ n = 2 ^ (8 * n) := by rw [Nat.pow_mul]
  have hw64 := w.isLt
  apply BitVec.eq_of_toNat_eq
  rw [zext, BitVec.toNat_setWidth, BitVec.toNat_setWidth, BitVec.toNat_ofNat, ← hpow, hw, Nat.mod_eq_of_lt hlt]

theorem writesGpr_of_loadGpr {extend : Word → Word} {v : Word} (hn : n ≤ 8) (hready : LoadReady s va n pa)
    (hexec : exec i s = loadGpr n extend rd va s)
    (hextend : ∀ w : Word, w.toNat = memoryValue s pa n → memoryValue s pa n < 256 ^ n → extend w = v) :
    WritesGpr i s rd v := by
  obtain ⟨w, hread, hw, hlt⟩ := memRead_of_ready hn hready
  exact writesGpr_of_exec_eq (hexec.trans (withAccess_ok hread)) (hextend w hw hlt)

/-! ### Stores of byte lanes -/

theorem laneByte_allOnes {k : Nat} (hk : k < 8) : laneByte (BitVec.allOnes 64) k = 0xFF#8 := by
  interval_cases k <;> decide

theorem storesLanes_of_storeLanes {v mask : Word} {byte : Nat → Byte} {lanes : Nat → Prop}
    (hready : StoreReady s va n pa) (hexec : exec i s = storeLanes n v mask va s)
    (hlanes : ∀ k, k < n → (laneByte mask k = 0xFF#8 ↔ lanes k))
    (hbyte : ∀ k, k < n → lanes k → laneByte v k = byte k) : StoresLanes i s pa n byte lanes := by
  obtain ⟨m, hwrite, -, hwritten, hrest⟩ := memWriteMasked_of_ready (v := v) (mask := mask) hready
  refine ⟨_, hexec.trans (withAccess_ok hwrite), fun k hk hlane => ?_, fun r _ => rfl, ?_⟩
  · exact (hwritten k hk ((hlanes k hk).mpr hlane)).trans (hbyte k hk hlane)
  · simp only [FlowSame, HiLoSame, FprsSame, FpControlSame, Cp0Same, SystemRestSame, LatchesSame, OutsideSame,
      MemorySameExcept, true_and, and_true]
    intro a ha
    exact hrest a fun k hk hmask haddr => ha ⟨k, hk, (hlanes k hk).mp hmask, haddr⟩

/-- A full-width store writes every lane. -/
theorem storesLanes_of_storeBytes {v : Word} {byte : Nat → Byte} (hn : n ≤ 8) (hready : StoreReady s va n pa)
    (hexec : exec i s = storeBytes n v va s) (hbyte : ∀ k, k < n → laneByte v k = byte k) :
    StoresLanes i s pa n byte fun _ => True :=
  storesLanes_of_storeLanes hready hexec (fun k hk => iff_of_true (laneByte_allOnes (by omega)) trivial)
    fun k hk _ => hbyte k hk

theorem laneByte_zext32 (x : Word32) {k : Nat} (hk : k < 4) : laneByte (zext32 x) k = x.extractLsb' (8 * k) 8 := by
  apply BitVec.eq_of_getLsbD_eq
  intro j hj
  simp [laneByte, zext32, hj, show 8 * k + j < 64 by omega, -BitVec.getLsbD_eq_getElem]

/-! ### Linked loads and store-conditionals -/

theorem toNat_zext32 (v : Word32) : (zext32 v).toNat = v.toNat := by
  have := v.isLt
  rw [zext32, BitVec.toNat_setWidth]
  omega

/-- What a linked load leaves alone: all but the register and the latches. -/
def OnlyGprsAndLatches (written : List Reg) (s t : State) : Prop :=
  GprsSameExcept written s t ∧ FlowSame s t ∧ HiLoSame s t ∧ FprsSame s t ∧ FpControlSame s t ∧ Cp0Same s t ∧
    SystemRestSame s t ∧ MemorySame s t ∧ OutsideSame s t

/-- What a store-conditional leaves alone: all but the register and memory. -/
def OnlyGprsAndMemory (written : List Reg) (s t : State) : Prop :=
  GprsSameExcept written s t ∧ FlowSame s t ∧ HiLoSame s t ∧ FprsSame s t ∧ FpControlSame s t ∧ Cp0Same s t ∧
    SystemRestSame s t ∧ LatchesSame s t ∧ OutsideSame s t

theorem onlyGprsAndLatches_linked (r : Reg) (v : Word) (ll : Word32) (lld : Word) :
    OnlyGprsAndLatches [r] s (writeGpr r v { s with llValue := ll, lldValue := lld }) := by
  refine ⟨fun q hq => (readGpr_writeGpr_other r q v (by simpa using hq)).trans (readGpr_of_gpr q rfl), ?_⟩
  simp [FlowSame, HiLoSame, FprsSame, FpControlSame, Cp0Same, SystemRestSame, MemorySame, OutsideSame]

theorem onlyGprsAndMemory_writeGpr (r : Reg) (v : Word) (m : Memory) :
    OnlyGprsAndMemory [r] s (writeGpr r v { s with mem := m }) := by
  refine ⟨fun q hq => (readGpr_writeGpr_other r q v (by simpa using hq)).trans (readGpr_of_gpr q rfl), ?_⟩
  simp [FlowSame, HiLoSame, FprsSame, FpControlSame, Cp0Same, SystemRestSame, LatchesSame, OutsideSame]

theorem readLanes_eq_iff (hn : n ≤ 8) (latch : Word) :
    readLanes s.cfg.bigEndian s.mem pa n n = latch ↔ memoryValue s pa n = latch.toNat := by
  rw [← BitVec.toNat_inj, (toNat_readLanes s.cfg.bigEndian s.mem pa n n hn).1]
  rfl

/-- A store-conditional whose value in memory equals the latch (R304). -/
theorem conditionalStore_of_equal {latch : Word} (hn : n ≤ 8)
    (hexec : exec i s = withAccess (memConditionalWrite s va n latch (readGpr rd s)) s (finishConditional rd · s))
    (hready : StoreReady s va n pa) (hread : busFails s.cfg false pa n = false)
    (hequal : memoryValue s pa n = latch.toNat) :
    ∃ t, exec i s = .next t ∧ OnlyGprsAndMemory [rd] s t ∧ (rd ≠ 0 → readGpr rd t = 1) ∧
      (∀ k, k < n → t.mem.readByte (laneAddr s.cfg.bigEndian pa n k) = (readGpr rd s).extractLsb' (8 * k) 8) ∧
      MemorySameExcept (AccessBytes pa n) s t := by
  obtain ⟨haligned, ⟨a, htranslate⟩, hwrite, hwf⟩ := hready
  have haccess : memConditionalWrite s va n latch (readGpr rd s) =
      .ok (some (writeLanes s.cfg.bigEndian s.mem pa n (readGpr rd s) (BitVec.allOnes 64) n)) := by
    refine memConditionalWrite_ok.mpr ⟨by simp [misaligned, haligned], pa, a, htranslate, hread, ?_⟩
    rw [if_pos ((readLanes_eq_iff hn latch).mpr hequal)]
    exact ⟨hwrite, rfl⟩
  obtain ⟨hwritten, hrest⟩ := readByte_writeLanes s.cfg.bigEndian s.mem pa n (readGpr rd s) (BitVec.allOnes 64) n
    le_rfl hwf
  refine ⟨_, hexec.trans (withAccess_ok haccess), onlyGprsAndMemory_writeGpr rd 1 _,
    fun hrd => readGpr_writeGpr_same rd 1 hrd, fun k hk => ?_, fun b hb => ?_⟩
  · rw [writeGpr_mem]
    exact hwritten k hk (laneByte_allOnes (by omega))
  · rw [writeGpr_mem]
    refine hrest b fun k hk _ haddr => hb ?_
    rw [haddr]
    exact laneAddr_mem _ _ _ _ hk

/-- A store-conditional whose value in memory differs from the latch (R304). -/
theorem conditionalStore_of_unequal {latch : Word} (hn : n ≤ 8)
    (hexec : exec i s = withAccess (memConditionalWrite s va n latch (readGpr rd s)) s (finishConditional rd · s))
    (haligned : va.toNat % n = 0) (htranslate : ∃ a : Attr, translate s va .write = .ok (pa, a))
    (hread : busFails s.cfg false pa n = false) (hunequal : memoryValue s pa n ≠ latch.toNat) :
    ∃ t, exec i s = .next t ∧ OnlyGprsAndMemory [rd] s t ∧ (rd ≠ 0 → readGpr rd t = 0) ∧ MemorySame s t := by
  obtain ⟨a, htranslate⟩ := htranslate
  have haccess : memConditionalWrite s va n latch (readGpr rd s) = .ok none := by
    refine memConditionalWrite_ok.mpr ⟨by simp [misaligned, haligned], pa, a, htranslate, hread, ?_⟩
    rw [if_neg (mt (readLanes_eq_iff hn latch).mp hunequal)]
  exact ⟨_, hexec.trans (withAccess_ok haccess), onlyGprsAndMemory_writeGpr rd 0 s.mem,
    fun hrd => readGpr_writeGpr_same rd 0 hrd, fun b => by rw [writeGpr_mem]⟩

end Sys2Proof.Machine

namespace Sys2Proof.Proofs

open Sys2Proof.Machine

/-- Settles O39: a ready load reads the number its bytes spell, and each form extends it from the width of the access.
-/
theorem alignedLoads : Obligations.AlignedLoads := by
  unfold Obligations.AlignedLoads
  intro s rt base offset pa
  exact ⟨fun h => writesGpr_of_loadGpr (by decide) h rfl fun _ hw _ => sext_eq 1 hw,
    fun h => writesGpr_of_loadGpr (by decide) h rfl fun _ hw hlt => zext_eq 1 hw hlt,
    fun h => writesGpr_of_loadGpr (by decide) h rfl fun _ hw _ => sext_eq 2 hw,
    fun h => writesGpr_of_loadGpr (by decide) h rfl fun _ hw hlt => zext_eq 2 hw hlt,
    fun h => writesGpr_of_loadGpr (by decide) h rfl fun _ hw _ => sext_eq 4 hw,
    fun h => writesGpr_of_loadGpr (by decide) h rfl fun _ hw hlt => zext_eq 4 hw hlt,
    fun h => writesGpr_of_loadGpr (by decide) h rfl fun w hw _ => by
      rw [← hw, BitVec.ofNat_toNat, BitVec.setWidth_eq]
      rfl⟩

/-- Settles O40: the four stores write all their lanes. -/
theorem alignedStores : Obligations.AlignedStores := by
  unfold Obligations.AlignedStores
  intro s rt base offset pa
  exact ⟨fun h => storesLanes_of_storeBytes (by decide) h rfl fun _ _ => rfl,
    fun h => storesLanes_of_storeBytes (by decide) h rfl fun _ _ => rfl,
    fun h => storesLanes_of_storeBytes (by decide) h rfl fun _ _ => rfl,
    fun h => storesLanes_of_storeBytes (by decide) h rfl fun _ _ => rfl⟩

/-- Settles O44: the linked loads write register and latch; a store-conditional goes by whether memory still holds the
latched value. -/
theorem linkedLoadsAndConditionalStores : Obligations.LinkedLoadsAndConditionalStores := by
  unfold Obligations.LinkedLoadsAndConditionalStores
  intro s rt base offset pa
  dsimp only
  rw [← toNat_zext32 s.llValue]
  refine ⟨fun hready => ?ll, fun hready => ?lld,
    ⟨conditionalStore_of_equal (by decide) rfl, conditionalStore_of_unequal (by decide) rfl⟩,
    ⟨conditionalStore_of_equal (by decide) rfl, conditionalStore_of_unequal (by decide) rfl⟩⟩
  case ll =>
    obtain ⟨w, hread, hw, hlt⟩ := memRead_of_ready (by decide) hready
    refine ⟨_, withAccess_ok hread, ?_, by simp, fun hrt => ?_, onlyGprsAndLatches_linked rt _ (lo32 w) s.lldValue⟩
    · rw [writeGpr_llValue]
      exact (toNat_lo32_of_lt (by omega)).trans hw
    · rw [writeGpr_llValue]
      exact readGpr_writeGpr_same rt _ hrt
  case lld =>
    obtain ⟨w, hread, hw, _⟩ := memRead_of_ready (by decide) hready
    refine ⟨_, withAccess_ok hread, ?_, by simp, fun hrt => ?_, onlyGprsAndLatches_linked rt _ s.llValue w⟩
    · rw [writeGpr_lldValue]
      exact hw
    · rw [writeGpr_lldValue]
      exact readGpr_writeGpr_same rt _ hrt

/-- Settles O45: behind the check of coprocessor 1 these are loads into a floating register and full-width stores. -/
theorem floatingLoadsAndStores : Obligations.FloatingLoadsAndStores := by
  unfold Obligations.FloatingLoadsAndStores
  intro s ft base offset pa hcp1
  refine ⟨fun hready => ?lwc1, fun hready => ?ldc1, fun hready => ?swc1, fun hready => ?sdc1⟩
  case lwc1 =>
    obtain ⟨w, hread, hw, hlt⟩ := memRead_of_ready (by decide) hready
    exact writesFpr32_of_exec ((requireCp1_of_enabled hcp1).trans (withAccess_ok hread))
      ((toNat_lo32_of_lt (by omega)).trans hw)
  case ldc1 =>
    obtain ⟨w, hread, hw, _⟩ := memRead_of_ready (by decide) hready
    exact writesFpr64_of_exec ((requireCp1_of_enabled hcp1).trans (withAccess_ok hread)) hw
  case swc1 =>
    exact storesLanes_of_storeBytes (by decide) hready (requireCp1_of_enabled hcp1) fun _ hk => laneByte_zext32 _ hk
  case sdc1 =>
    exact storesLanes_of_storeBytes (by decide) hready (requireCp1_of_enabled hcp1) fun _ _ => rfl

end Sys2Proof.Proofs
end

section
/-! SUPPORT. Accesses and fetches that fail (R88 to R92, R118, R280, R304, R508, R509). -/

namespace Sys2Proof.Machine

variable {s : State} {i : Instr} {a : Word} {n : Nat} {e : Exc} {p : Nat × Attr}

/-! ### How an access fails -/

theorem misaligned_eq_true (h : a.toNat % n ≠ 0) : misaligned a n = true := decide_eq_true h

theorem misaligned_eq_false (h : a.toNat % n = 0) : misaligned a n = false := decide_eq_false (not_not_intro h)

theorem memRead_of_misaligned (h : a.toNat % n ≠ 0) : memRead s a n = .raised (.adel a) :=
  if_pos (misaligned_eq_true h)

theorem memRead_of_raised (h : a.toNat % n = 0) (ht : translate s a .read = .raised e) :
    memRead s a n = .raised e := by
  simp [memRead, misaligned_eq_false h, ht, Access.bind]

theorem memRead_of_busFails (h : a.toNat % n = 0) (ht : translate s a .read = .ok p)
    (hbus : busFails s.cfg false p.1 n = true) : memRead s a n = .raised .dbe := by
  simp [memRead, misaligned_eq_false h, ht, Access.bind, busRead, hbus]

theorem memWriteMasked_of_misaligned {v mask : Word} (h : a.toNat % n ≠ 0) :
    memWriteMasked s a n v mask = .raised (.ades a) := if_pos (misaligned_eq_true h)

theorem memWriteMasked_of_raised {v mask : Word} (h : a.toNat % n = 0) (ht : translate s a .write = .raised e) :
    memWriteMasked s a n v mask = .raised e := by
  simp [memWriteMasked, misaligned_eq_false h, ht, Access.bind]

theorem memWriteMasked_of_busFails {v mask : Word} (h : a.toNat % n = 0) (ht : translate s a .write = .ok p)
    (hbus : busFails s.cfg true p.1 n = true) : memWriteMasked s a n v mask = .raised .dbe := by
  simp [memWriteMasked, misaligned_eq_false h, ht, Access.bind, busWrite, hbus]

theorem memConditionalWrite_of_misaligned {latch v : Word} (h : a.toNat % n ≠ 0) :
    memConditionalWrite s a n latch v = .raised (.ades a) := if_pos (misaligned_eq_true h)

theorem memConditionalWrite_of_raised {latch v : Word} (h : a.toNat % n = 0)
    (ht : translate s a .write = .raised e) : memConditionalWrite s a n latch v = .raised e := by
  simp [memConditionalWrite, misaligned_eq_false h, ht, Access.bind]

theorem memConditionalWrite_of_readFails {latch v : Word} (h : a.toNat % n = 0)
    (ht : translate s a .write = .ok p) (hbus : busFails s.cfg false p.1 n = true) :
    memConditionalWrite s a n latch v = .raised .dbe := by
  simp [memConditionalWrite, misaligned_eq_false h, ht, Access.bind, busRead, hbus]

/-- The write of a store-conditional is tried when the value read equals the latch (R304). -/
theorem memConditionalWrite_of_writeFails {latch v : Word} (hn : n ≤ 8) (h : a.toNat % n = 0)
    (ht : translate s a .write = .ok p) (hread : busFails s.cfg false p.1 n = false)
    (hequal : memoryValue s p.1 n = latch.toNat) (hbus : busFails s.cfg true p.1 n = true) :
    memConditionalWrite s a n latch v = .raised .dbe := by
  simp [memConditionalWrite, misaligned_eq_false h, ht, Access.bind, busRead, hread, busWrite, hbus,
    (readLanes_eq_iff hn latch).mpr hequal]

/-! ### Instructions whose access fails -/

/-- An aligned access of the instruction that fails raises the exception of its translation or a bus error. -/
def FailsAs (s : State) (intent : Intent) (write : Bool) (n : Nat) (a : Word) (i : Instr) : Prop :=
  (a.toNat % n = 0 → ∀ e, translate s a intent = .raised e → Raises i s e) ∧
  (a.toNat % n = 0 → ∀ t, translate s a intent = .ok t → busFails s.cfg write t.1 n = true → Raises i s .dbe)

theorem raises_of_access {α : Type} {access : Access α} {k : α → Result} (h : exec i s = withAccess access s k)
    (ha : access = .raised e) : Raises i s e := by
  rw [Raises, h, ha]
  rfl

section Reads

variable {k : Word → Result} (h : exec i s = withAccess (memRead s a n) s k)
include h

theorem failsAs_read : FailsAs s .read false n a i :=
  ⟨fun ha _ ht => raises_of_access h (memRead_of_raised ha ht),
    fun ha _ ht hbus => raises_of_access h (memRead_of_busFails ha ht hbus)⟩

theorem loadFails : (a.toNat % n ≠ 0 → Raises i s (.adel a)) ∧ FailsAs s .read false n a i :=
  ⟨fun ha => raises_of_access h (memRead_of_misaligned ha), failsAs_read h⟩

end Reads

section Writes

variable {v mask : Word} {k : Memory → Result} (h : exec i s = withAccess (memWriteMasked s a n v mask) s k)
include h

theorem failsAs_write : FailsAs s .write true n a i :=
  ⟨fun ha _ ht => raises_of_access h (memWriteMasked_of_raised ha ht),
    fun ha _ ht hbus => raises_of_access h (memWriteMasked_of_busFails ha ht hbus)⟩

theorem storeFails : (a.toNat % n ≠ 0 → Raises i s (.ades a)) ∧ FailsAs s .write true n a i :=
  ⟨fun ha => raises_of_access h (memWriteMasked_of_misaligned ha), failsAs_write h⟩

end Writes

theorem conditionalStoreFails {latch v : Word} {k : Option Memory → Result}
    (h : exec i s = withAccess (memConditionalWrite s a n latch v) s k) :
    (a.toNat % n ≠ 0 → Raises i s (.ades a)) ∧ FailsAs s .write false n a i :=
  ⟨fun ha => raises_of_access h (memConditionalWrite_of_misaligned ha),
    fun ha _ ht => raises_of_access h (memConditionalWrite_of_raised ha ht),
    fun ha _ ht hbus => raises_of_access h (memConditionalWrite_of_readFails ha ht hbus)⟩

/-! ### The fetch (R118) -/

theorem extractLsb'_two_eq_zero_iff (v : Word) : v.extractLsb' 0 2 = 0 ↔ v.toNat % 4 = 0 := by
  rw [← BitVec.toNat_inj, BitVec.extractLsb'_toNat]
  simp

theorem translateFetch_of_misaligned (h : s.pc.toNat % 4 ≠ 0) : translateFetch s = .raised (.adel s.pc) :=
  if_pos (mt (extractLsb'_two_eq_zero_iff s.pc).mp h)

theorem translateFetch_of_aligned (h : s.pc.toNat % 4 = 0) :
    translateFetch s = (translate s s.pc .fetch).bind fun t => .ok t.1 :=
  if_neg (not_not_intro ((extractLsb'_two_eq_zero_iff s.pc).mpr h))

theorem fetchWord_of_misaligned (h : s.pc.toNat % 4 ≠ 0) : fetchWord s = .raised (.adel s.pc) := by
  simp only [fetchWord, translateFetch_of_misaligned h, Access.bind]

theorem fetchWord_of_raised (h : s.pc.toNat % 4 = 0) (ht : translate s s.pc .fetch = .raised e) :
    fetchWord s = .raised e := by
  simp only [fetchWord, translateFetch_of_aligned h, ht, Access.bind]

theorem fetchWord_of_busFails (h : s.pc.toNat % 4 = 0) (ht : translate s s.pc .fetch = .ok p)
    (hbus : busFails s.cfg false p.1 4 = true) : fetchWord s = .raised .ibe := by
  simp only [fetchWord, translateFetch_of_aligned h, ht, Access.bind, busRead, hbus, if_true]

theorem translate_of_reservedMode (hmode : mode s = none) (intent : Intent) :
    translate s a intent = .refused .reservedMode := by
  simp only [translate, hmode]

theorem fetchWord_of_reservedMode (h : s.pc.toNat % 4 = 0) (hmode : mode s = none) :
    fetchWord s = .refused .reservedMode := by
  simp only [fetchWord, translateFetch_of_aligned h, translate_of_reservedMode hmode, Access.bind]

/-- Without an interrupt a step is the fetch and what follows from it. -/
theorem step_of_no_interrupt (h : interruptPending (beginStep s) = false) :
    step s = retireResult (withAccess (fetchWord (beginStep s)) (beginStep s) fun w =>
      executeWord w (beginStep s)) := by
  simp [step, runStep, h, fetchAndExecute]

theorem step_of_fetch_raised (h : interruptPending (beginStep s) = false)
    (hfetch : fetchWord (beginStep s) = .raised e) : step s = .next (retire (raise e (beginStep s))) := by
  rw [step_of_no_interrupt h, hfetch]
  rfl

theorem step_of_fetch_refused {r : Refusal} (h : interruptPending (beginStep s) = false)
    (hfetch : fetchWord (beginStep s) = .refused r) : step s = .refused r := by
  rw [step_of_no_interrupt h, hfetch]
  rfl

end Sys2Proof.Machine

namespace Sys2Proof.Proofs

open Sys2Proof.Machine

/-- Settles O41: every form is an access of one of the three kinds, followed by something that a failure does not reach;
a failed fetch ends its step before anything is decoded. -/
theorem failedAccessesRaise : Obligations.FailedAccessesRaise := by
  unfold Obligations.FailedAccessesRaise
  refine ⟨fun s rt base offset => ?_, ?fetch⟩
  · refine ⟨loadFails rfl, loadFails rfl, loadFails rfl, loadFails rfl, loadFails rfl, loadFails rfl, loadFails rfl,
      loadFails rfl, loadFails rfl, storeFails rfl, storeFails rfl, storeFails rfl, storeFails rfl, ?conditional,
      ?conditionalWrite, failsAs_read rfl, failsAs_read rfl, failsAs_read rfl, failsAs_read rfl, failsAs_write rfl,
      failsAs_write rfl, failsAs_write rfl, failsAs_write rfl, fun hcp1 => ?floating⟩
    case conditional =>
      rintro i n (⟨rfl, rfl⟩ | ⟨rfl, rfl⟩) <;> exact conditionalStoreFails rfl
    case conditionalWrite =>
      rintro i n latch (⟨rfl, rfl, rfl⟩ | ⟨rfl, rfl, rfl⟩) ha t ht hread hequal hbus
      · rw [← toNat_zext32] at hequal
        exact raises_of_access rfl (memConditionalWrite_of_writeFails (by decide) ha ht hread hequal hbus)
      · exact raises_of_access rfl (memConditionalWrite_of_writeFails (by decide) ha ht hread hequal hbus)
    case floating =>
      exact ⟨loadFails (requireCp1_of_enabled hcp1), loadFails (requireCp1_of_enabled hcp1),
        storeFails (requireCp1_of_enabled hcp1), storeFails (requireCp1_of_enabled hcp1)⟩
  case fetch =>
    rintro s b rfl hpending
    exact ⟨fun h => step_of_fetch_raised hpending (fetchWord_of_misaligned h),
      fun h _ ht => step_of_fetch_raised hpending (fetchWord_of_raised h ht),
      fun h _ ht hbus => step_of_fetch_raised hpending (fetchWord_of_busFails h ht hbus),
      fun h hmode => step_of_fetch_refused hpending (fetchWord_of_reservedMode h hmode)⟩

end Sys2Proof.Proofs
end

section
/-! SUPPORT. The partial-word accesses byte by byte (R292 to R301): the bytes of shifted and merged values, and the
position of R293. -/

namespace Sys2Proof.Machine

variable {s : State} {i : Instr} {va : Word} {rd : Reg} {n pa p k : Nat}

/-! ### Bytes of shifted values -/

section Bytes

variable {w : Nat} (v : BitVec w)

theorem toNat_byte (k : Nat) : (v.extractLsb' (8 * k) 8).toNat = v.toNat / 256 ^ k % 256 := by
  rw [BitVec.extractLsb'_toNat, Nat.shiftRight_eq_div_pow, Nat.pow_mul]

theorem byte_ushiftRight (p k : Nat) : (v >>> (8 * p)).extractLsb' (8 * k) 8 = v.extractLsb' (8 * (k + p)) 8 := by
  apply BitVec.eq_of_getLsbD_eq
  intro j hj
  simp only [BitVec.getLsbD_extractLsb', BitVec.getLsbD_ushiftRight, hj, decide_true, Bool.true_and]
  congr 1
  omega

theorem byte_shiftLeft (p : Nat) (hk : 8 * k + 8 ≤ w) :
    (v <<< (8 * p)).extractLsb' (8 * k) 8 = if p ≤ k then v.extractLsb' (8 * (k - p)) 8 else 0#8 := by
  apply BitVec.eq_of_getLsbD_eq
  intro j hj
  rw [BitVec.getLsbD_extractLsb', BitVec.getLsbD_shiftLeft]
  split
  · rw [BitVec.getLsbD_extractLsb', decide_eq_true (show 8 * k + j < w by omega),
      decide_eq_false (show ¬ 8 * k + j < 8 * p by omega), show 8 * k + j - 8 * p = 8 * (k - p) + j by omega]
    simp
  · simp [show 8 * k + j < 8 * p by omega]

theorem byte_allOnes (hw : w = 8 * n) (k : Nat) :
    (BitVec.allOnes w).extractLsb' (8 * k) 8 = if k < n then 0xFF#8 else 0#8 := by
  have hones : 0xFF#8 = BitVec.allOnes 8 := by decide
  apply BitVec.eq_of_getLsbD_eq
  intro j hj
  rw [BitVec.getLsbD_extractLsb', BitVec.getLsbD_allOnes, decide_eq_true hj, Bool.true_and, hones]
  split
  · rw [BitVec.getLsbD_allOnes, decide_eq_true hj, decide_eq_true (show 8 * k + j < w by omega)]
  · rw [BitVec.getLsbD_zero, decide_eq_false (show ¬ 8 * k + j < w by omega)]

theorem and_ones (b : Byte) : b &&& 0xFF#8 = b := BitVec.and_allOnes

theorem byte_not (hk : 8 * k + 8 ≤ w) : (~~~v).extractLsb' (8 * k) 8 = ~~~v.extractLsb' (8 * k) 8 := by
  apply BitVec.eq_of_getLsbD_eq
  intro j hj
  simp [hj, show 8 * k + j < w by omega, -BitVec.getLsbD_eq_getElem]

/-! ### Masks (R296, R297): which lanes they select -/

theorem byte_leftMask (hw : w = 8 * n) : (BitVec.allOnes w >>> (8 * p)).extractLsb' (8 * k) 8 = 0xFF#8 ↔ k + p < n := by
  rw [byte_ushiftRight, byte_allOnes hw]
  split <;> simp_all

theorem byte_rightMask (hw : w = 8 * n) (hk : k < n) :
    (BitVec.allOnes w <<< (8 * p)).extractLsb' (8 * k) 8 = 0xFF#8 ↔ p ≤ k := by
  rw [byte_shiftLeft _ _ (by omega), byte_allOnes hw, if_pos (show k - p < n by omega)]
  split <;> simp_all

/-! ### Merges (R294, R295) -/

theorem byte_mergeLeft (old datum : BitVec w) (hw : w = 8 * n) (hk : k < n) (p : Nat) :
    (mergeLeft old datum (8 * p)).extractLsb' (8 * k) 8 =
      if p ≤ k then datum.extractLsb' (8 * (k - p)) 8 else old.extractLsb' (8 * k) 8 := by
  rw [mergeLeft, BitVec.extractLsb'_or, BitVec.extractLsb'_and, byte_not _ (by omega),
    byte_shiftLeft _ _ (by omega), byte_shiftLeft _ _ (by omega), byte_allOnes hw,
    if_pos (show k - p < n by omega)]
  split
  · simp [show ~~~0xFF#8 = 0#8 by decide]
  · simp [show ~~~0#8 = 0xFF#8 by decide, and_ones]

theorem byte_mergeRight (old datum : BitVec w) (hw : w = 8 * n) (hk : k < n) (hp : p < n) :
    (mergeRight old datum (8 * (n - 1 - p))).extractLsb' (8 * k) 8 =
      if k ≤ p then datum.extractLsb' (8 * (k + (n - 1 - p))) 8 else old.extractLsb' (8 * k) 8 := by
  have hin : k + (n - 1 - p) < n ↔ k ≤ p := by omega
  rw [mergeRight, BitVec.extractLsb'_or, BitVec.extractLsb'_and, byte_not _ (by omega), byte_ushiftRight,
    byte_ushiftRight, byte_allOnes hw, if_congr hin rfl rfl]
  split
  · simp [show ~~~0xFF#8 = 0#8 by decide]
  · have hzero : datum.extractLsb' (8 * (k + (n - 1 - p))) 8 = 0#8 := by
      apply BitVec.eq_of_getLsbD_eq
      intro j _
      simp [BitVec.getLsbD_of_ge datum (8 * (k + (n - 1 - p)) + j) (by omega)]
    simp [hzero, show ~~~0#8 = 0xFF#8 by decide, and_ones]

theorem byte_lo32 (v : Word) (hk : k < 4) : (lo32 v).extractLsb' (8 * k) 8 = v.extractLsb' (8 * k) 8 :=
  BitVec.extractLsb'_setWidth_of_le (by omega)

theorem byte_sext32 (v : Word32) (hk : k < 4) : (sext32 v).extractLsb' (8 * k) 8 = v.extractLsb' (8 * k) 8 := by
  rw [← byte_lo32 _ hk, lo32_sext32]

/-- The merge of `LWL`, on the low words of two registers. -/
theorem byte_mergeLeft_word (old datum : Word) (hk : k < 4) (p : Nat) :
    (sext32 (mergeLeft (lo32 old) (lo32 datum) (8 * p))).extractLsb' (8 * k) 8 =
      if p ≤ k then datum.extractLsb' (8 * (k - p)) 8 else old.extractLsb' (8 * k) 8 := by
  rw [byte_sext32 _ hk, byte_mergeLeft _ _ rfl hk, byte_lo32 _ hk, byte_lo32 _ (by omega)]

/-- The merge of `LWR`, on the low words of two registers. -/
theorem byte_mergeRight_word (old datum : Word) (hk : k < 4) (hp : p < 4) :
    (sext32 (mergeRight (lo32 old) (lo32 datum) (8 * (4 - 1 - p)))).extractLsb' (8 * k) 8 =
      if k ≤ p then datum.extractLsb' (8 * (k + (4 - 1 - p))) 8 else old.extractLsb' (8 * k) 8 := by
  rw [byte_sext32 _ hk, byte_mergeRight _ _ rfl hk hp, byte_lo32 _ hk]
  exact if_ctx_congr Iff.rfl (fun hkept => byte_lo32 _ (by omega)) fun _ => rfl

end Bytes

theorem sext32_eq_wrap32 (v : Word32) : sext32 v = wrap32 (signedLow (sext32 v)) := by
  rw [signedLow, lo32_sext32, ← sext32_ofInt, BitVec.ofInt_toInt]

/-! ### The position of R293 -/

/-- The number of low register bytes that a left form keeps (R293). -/
def bytePosition (s : State) (va : Word) (n : Nat) : Nat :=
  if s.cfg.bigEndian == reverseEndian s then n - 1 - va.toNat % n else va.toNat % n

theorem bytePosition_lt (hn : 0 < n) : bytePosition s va n < n := by
  have := Nat.mod_lt va.toNat hn
  unfold bytePosition
  split <;> omega

/-- The all-ones mask of an access of `n` bytes: it takes the position of an address, and flips a position. -/
def IsPositionMask (ones n : Nat) : Prop := (∀ a, a &&& ones = a % n) ∧ ∀ x < n, x ^^^ ones = n - 1 - x

theorem isPositionMask_word : IsPositionMask 3 4 :=
  ⟨fun a => Nat.and_two_pow_sub_one_eq_mod a 2, by decide⟩

theorem isPositionMask_double : IsPositionMask 7 8 :=
  ⟨fun a => Nat.and_two_pow_sub_one_eq_mod a 3, by decide⟩

theorem xor_onesIf_onesIf (x ones : Nat) (a b : Bool) :
    x ^^^ onesIf a ones ^^^ onesIf b ones = if a ^^ b then x ^^^ ones else x := by
  cases a <;> cases b <;> simp [onesIf]

theorem leftShift_eq {ones : Nat} (hmask : IsPositionMask ones n) (hn : 0 < n) (s : State) (va : Word) :
    leftShift s va ones = 8 * bytePosition s va n := by
  obtain ⟨hmod, hflip⟩ := hmask
  have hxor : (!s.cfg.bigEndian ^^ reverseEndian s) = (s.cfg.bigEndian == reverseEndian s) := by
    cases s.cfg.bigEndian <;> cases reverseEndian s <;> rfl
  rw [leftShift, xor_onesIf_onesIf, hxor, hmod, hflip _ (Nat.mod_lt _ hn), bytePosition]

theorem rightShift_eq {ones : Nat} (hmask : IsPositionMask ones n) (hn : 0 < n) (s : State) (va : Word) :
    rightShift s va ones = 8 * (n - 1 - bytePosition s va n) := by
  obtain ⟨hmod, hflip⟩ := hmask
  have hlt := Nat.mod_lt va.toNat hn
  have hxor : (s.cfg.bigEndian ^^ reverseEndian s) = !(s.cfg.bigEndian == reverseEndian s) := by
    cases s.cfg.bigEndian <;> cases reverseEndian s <;> rfl
  rw [rightShift, xor_onesIf_onesIf, hxor, hmod, hflip _ hlt, bytePosition]
  cases s.cfg.bigEndian == reverseEndian s <;> simp
  omega

end Sys2Proof.Machine

namespace Sys2Proof.Proofs

open Sys2Proof.Machine

/-- Settles O42: the bytes of a merge, with the shifts of R293 as positions. -/
theorem partialLoads : Obligations.PartialLoads := by
  unfold Obligations.PartialLoads
  intro s rt base offset pa
  dsimp only
  refine ⟨fun hready => ?word, fun hready => ?double⟩
  case word =>
    obtain ⟨w, hread, hw, _⟩ := memRead_of_ready (by decide) hready
    rw [← hw]
    refine ⟨⟨_, fun k hk => ?left, sext32_eq_wrap32 _, writesGpr_of_exec (withAccess_ok hread)⟩,
      ⟨_, fun k hk => ?right, sext32_eq_wrap32 _, writesGpr_of_exec (withAccess_ok hread)⟩⟩
    case left =>
      rw [← toNat_byte, leftShift_eq isPositionMask_word (by decide), byte_mergeLeft_word _ _ hk,
        apply_ite BitVec.toNat, toNat_byte, toNat_byte]
      rfl
    case right =>
      rw [← toNat_byte, rightShift_eq isPositionMask_word (by decide),
        byte_mergeRight_word _ _ hk (bytePosition_lt (by decide)), apply_ite BitVec.toNat, toNat_byte, toNat_byte]
      rfl
  case double =>
    obtain ⟨w, hread, hw, _⟩ := memRead_of_ready (by decide) hready
    rw [← hw]
    refine ⟨⟨_, fun k hk => ?left, writesGpr_of_exec (withAccess_ok hread)⟩,
      ⟨_, fun k hk => ?right, writesGpr_of_exec (withAccess_ok hread)⟩⟩
    case left =>
      rw [← toNat_byte, leftShift_eq isPositionMask_double (by decide), byte_mergeLeft _ _ rfl hk,
        apply_ite BitVec.toNat, toNat_byte, toNat_byte]
      rfl
    case right =>
      rw [← toNat_byte, rightShift_eq isPositionMask_double (by decide),
        byte_mergeRight _ _ rfl hk (bytePosition_lt (by decide)),
        apply_ite BitVec.toNat, toNat_byte, toNat_byte]
      rfl

/-- Settles O43: the lanes that the shifted masks select, and the bytes of the shifted register. -/
theorem partialStores : Obligations.PartialStores := by
  unfold Obligations.PartialStores
  intro s rt base offset pa
  dsimp only
  refine ⟨fun hready => ⟨?swl, ?swr⟩, fun hready => ⟨?sdl, ?sdr⟩⟩
  case swl =>
    refine storesLanes_of_storeLanes hready rfl (fun k hk => ?_) (fun k hk hlane => ?_)
    · rw [laneByte_zext32 _ hk, leftShift_eq isPositionMask_word (by decide)]
      exact byte_leftMask rfl
    · rw [laneByte_zext32 _ hk, leftShift_eq isPositionMask_word (by decide), byte_ushiftRight]
      exact byte_lo32 _ hlane
  case swr =>
    refine storesLanes_of_storeLanes hready rfl (fun k hk => ?_) (fun k hk hlane => ?_)
    · rw [laneByte_zext32 _ hk, rightShift_eq isPositionMask_word (by decide)]
      exact byte_rightMask rfl hk
    · rw [laneByte_zext32 _ hk, rightShift_eq isPositionMask_word (by decide), byte_shiftLeft _ _ (by omega)]
      exact (if_pos hlane).trans (byte_lo32 _ (by omega))
  case sdl =>
    refine storesLanes_of_storeLanes hready rfl (fun k hk => ?_) (fun k hk hlane => ?_)
    · rw [leftShift_eq isPositionMask_double (by decide)]
      exact byte_leftMask rfl
    · rw [leftShift_eq isPositionMask_double (by decide)]
      exact byte_ushiftRight _ _ _
  case sdr =>
    refine storesLanes_of_storeLanes hready rfl (fun k hk => ?_) (fun k hk hlane => ?_)
    · rw [rightShift_eq isPositionMask_double (by decide)]
      exact byte_rightMask rfl hk
    · rw [rightShift_eq isPositionMask_double (by decide)]
      exact (byte_shiftLeft _ _ (by omega)).trans (if_pos hlane)

end Sys2Proof.Proofs
end

section
/-! SUPPORT. The system-coprocessor registers and their moves (R30 to R53, R452 to R458). -/

namespace Sys2Proof.Machine

variable {s t : State} {i : Instr} {rd : Reg} {v : Word}

/-! ### Random (R32) -/

theorem randomValue_lt (s : State) : randomValue s < 48 := by
  unfold randomValue
  split
  · have := Nat.mod_lt (randomSource s) (show 0 < 48 - wired s by omega)
    omega
  · exact Nat.mod_lt _ (by decide)

theorem wired_le_randomValue (h : wired s ≤ 47) : wired s ≤ randomValue s := by
  rw [randomValue, if_pos h]
  exact Nat.le_add_right _ _

theorem sext32_lo32_ofNat {x : Nat} (h : x < 48) : sext32 (lo32 (BitVec.ofNat 64 x)) = BitVec.ofNat 64 x := by
  have hlt : (BitVec.ofNat 64 x).toNat < 2 ^ 31 := by
    rw [BitVec.toNat_ofNat]
    omega
  exact (eq_sext32_lo32_iff.mpr (.inl hlt)).symm

/-! ### Moves from a register (R452, R453) -/

theorem cp0Read_of_ne (h : rd ≠ 1) (s : State) : cp0Read rd s = (cp0Cell rd s, s) := if_neg h

theorem cp0Read_random (s : State) :
    cp0Read 1 s = (BitVec.ofNat 64 (randomValue s), { s with draws := s.draws + 1 }) := rfl

theorem exec_mfc0_of_usable (rt rd : Reg) (h : cp0Usable s = true) :
    exec (.mfc0 rt rd) s = .next (writeGpr rt (sext32 (lo32 (cp0Read rd s).1)) (cp0Read rd s).2) :=
  requireCp0_of_usable h

theorem exec_dmfc0_of_usable (rt rd : Reg) (h : cp0Usable s = true) :
    exec (.dmfc0 rt rd) s = .next (writeGpr rt (cp0Read rd s).1 (cp0Read rd s).2) :=
  requireCp0_of_usable h

/-- A register write that also used up a free value. -/
theorem writesGpr_of_exec_draws {draws : Nat} (h : exec i s = .next (writeGpr rd v { s with draws := draws })) :
    WritesGpr i s rd v :=
  ⟨_, h, fun hr => readGpr_writeGpr_same rd v hr, rfl, onlyGprs_writeGpr (s := { s with draws := draws }) rd v⟩

/-! ### Moves to a register (R454, R455, R458) -/

/-- The bits of a register that a move to it writes; Count and Compare are not plain cells. -/
def writableBits (n : Reg) : Word :=
  match n.toNat with
  | 0 => 0x8000003F
  | 2 | 3 => 0x3FFFFFFF
  | 4 => 0xFFFFFFFFFF800000
  | 5 => 0x01FFE000
  | 6 => 0x3F
  | 10 => 0xC00000FFFFFFE0FF
  | 13 => 0x300
  | 16 => 0x3F
  | 20 => 0xFFFFFFFE00000000
  | 12 | 17 | 18 | 19 | 26 | 28 | 29 => 0xFFFFFFFF
  | 1 | 8 | 15 | 27 => 0
  | _ => 0xFFFFFFFFFFFFFFFF

theorem maskMerge_of_reserved {n : Nat} {mask old : BitVec n} (v : BitVec n) (h : old &&& ~~~mask = 0) :
    maskMerge mask old v = v &&& mask := by
  rw [maskMerge, h]
  exact BitVec.zero_or

theorem maskMerge_zero {n : Nat} (old v : BitVec n) : maskMerge 0#n old v = old := by
  simp [maskMerge]

theorem maskMerge_allOnes {n : Nat} (old v : BitVec n) : maskMerge (BitVec.allOnes n) old v = v := by
  simp [maskMerge]

/-- A merge of 32 bits, as the register reads at 64. -/
theorem zext32_maskMerge (mask old : Word32) (v : Word) :
    zext32 (maskMerge mask old (lo32 v)) = maskMerge (zext32 mask) (zext32 old) v := by
  apply BitVec.eq_of_getLsbD_eq
  intro k hk
  by_cases h32 : k < 32
  · simp [zext32, lo32, maskMerge, hk, h32, -BitVec.getLsbD_eq_getElem]
  · simp [zext32, lo32, maskMerge, hk, BitVec.getLsbD_of_ge _ k (show 32 ≤ k by omega), -BitVec.getLsbD_eq_getElem]

theorem zext32_and_eq_maskMerge {mask old : Word32} (v : Word) (h : old &&& ~~~mask = 0) :
    zext32 (lo32 v &&& mask) = maskMerge (zext32 mask) (zext32 old) v := by
  rw [← maskMerge_of_reserved (lo32 v) h, zext32_maskMerge]

theorem zext32_lo32_eq_maskMerge (old : Word32) (v : Word) :
    zext32 (lo32 v) = maskMerge 0xFFFFFFFF#64 (zext32 old) v := by
  rw [show 0xFFFFFFFF#64 = zext32 (BitVec.allOnes 32) by decide, ← zext32_maskMerge, maskMerge_allOnes]

/-- A store into a plain cell writes exactly its writable bits. -/
theorem cp0Cell_cp0Store_same (hreserved : ReservedBitsZero s.cp0) (hcount : rd ≠ 9) (hcompare : rd ≠ 11) (v : Word) :
    cp0Cell rd { s with cp0 := cp0Store rd v s.cp0 } = maskMerge (writableBits rd) (cp0Cell rd s) v := by
  obtain ⟨hindex, hlo0, hlo1, -, hpageMask, hwired, hentryHi, -, -⟩ := hreserved
  have h9 : rd.toNat ≠ 9 := fun h => hcount (BitVec.eq_of_toNat_eq h)
  have h11 : rd.toNat ≠ 11 := fun h => hcompare (BitVec.eq_of_toNat_eq h)
  fun_cases cp0Store rd v s.cp0
  on_goal -1 =>
    simp only [imp_false] at *
    obtain h | h | h | h : rd.toNat = 1 ∨ rd.toNat = 8 ∨ rd.toNat = 15 ∨ rd.toNat = 27 := by omega
    all_goals
      simp only [cp0Cell, writableBits, h]
      exact (maskMerge_zero _ _).symm
  all_goals
    rename_i hn
    simp only [cp0Cell, writableBits, hn]
  -- Index, PageMask and Wired: the other bits are reserved
  case case1 => exact zext32_and_eq_maskMerge v hindex
  case case5 => exact zext32_and_eq_maskMerge v hpageMask
  case case6 => exact zext32_and_eq_maskMerge v hwired
  -- EntryLo0, EntryLo1 and EntryHi likewise
  case case2 => exact (maskMerge_of_reserved v hlo0).symm
  case case3 => exact (maskMerge_of_reserved v hlo1).symm
  case case8 => exact (maskMerge_of_reserved v hentryHi).symm
  -- Context and XContext keep the other bits, Cause and Config too
  case case4 | case16 => rfl
  case case10 | case12 => exact zext32_maskMerge _ _ v
  -- the registers of 32 bits without a fixed bit, and those of 64
  case case9 | case13 | case14 | case15 | case22 | case23 | case24 => exact zext32_lo32_eq_maskMerge _ v
  all_goals exact (maskMerge_allOnes _ v).symm

/-- A store into a plain cell reaches no other cell. -/
theorem cp0Cell_cp0Store_of_ne {k n : Reg} (h : k ≠ n) (v : Word) :
    cp0Cell k { s with cp0 := cp0Store n v s.cp0 } = cp0Cell k s := by
  have hne : k.toNat ≠ n.toNat := fun e => h (BitVec.eq_of_toNat_eq e)
  fun_cases cp0Store n v s.cp0
  all_goals unfold cp0Cell; split
  any_goals rfl
  all_goals omega

theorem cp0Write_of_ne (hcount : rd ≠ 9) (hcompare : rd ≠ 11) (v : Word) (s : State) :
    cp0Write rd v s = { s with cp0 := cp0Store rd v s.cp0 } := by
  rw [cp0Write, if_neg hcount, if_neg hcompare]

/-- The whole effect of a move to a register with a plain cell. -/
theorem moveToCell_spec (hreserved : ReservedBitsZero s.cp0) (hcount : rd ≠ 9) (hcompare : rd ≠ 11)
    (h : exec i s = .next (cp0Write rd v s)) : ∃ t, exec i s = .next t ∧
      cp0Cell rd t = (cp0Cell rd s &&& ~~~writableBits rd) ||| (v &&& writableBits rd) ∧
      (∀ k, k ≠ rd → cp0Cell k t = cp0Cell k s) ∧
      GprsSameExcept [] s t ∧ FlowSame s t ∧ HiLoSame s t ∧ FprsSame s t ∧ FpControlSame s t ∧
      SystemRestSame s t ∧ LatchesSame s t ∧ MemorySame s t ∧ OutsideSame s t := by
  rw [cp0Write_of_ne hcount hcompare] at h
  refine ⟨_, h, cp0Cell_cp0Store_same hreserved hcount hcompare v, fun k hk => cp0Cell_cp0Store_of_ne hk v,
    fun r _ => readGpr_of_gpr r rfl, ?_⟩
  simp [FlowSame, HiLoSame, FprsSame, FpControlSame, SystemRestSame, LatchesSame, MemorySame, OutsideSame]

end Sys2Proof.Machine

namespace Sys2Proof.Proofs

open Sys2Proof.Machine

/-- Settles O46: a cell is read as it is, Random is drawn from its range, and the control registers are a file. -/
theorem movesFromSystemRegisters : Obligations.MovesFromSystemRegisters := by
  unfold Obligations.MovesFromSystemRegisters
  intro s rt rd hcp0
  refine ⟨fun hrd => ⟨?mfc0, ?dmfc0⟩, ⟨BitVec.ofNat 64 (randomValue s), ?range, ?wired, ?mfc0Random, ?dmfc0Random⟩,
    writesGpr_of_exec (requireCp0_of_usable hcp0), ⟨_, requireCp0_of_usable hcp0, ?ctc0⟩⟩
  case mfc0 =>
    have h := exec_mfc0_of_usable rt rd hcp0
    rw [cp0Read_of_ne hrd] at h
    exact writesGpr_of_exec h
  case dmfc0 =>
    have h := exec_dmfc0_of_usable rt rd hcp0
    rw [cp0Read_of_ne hrd] at h
    exact writesGpr_of_exec h
  case range =>
    have := randomValue_lt s
    rw [BitVec.toNat_ofNat]
    omega
  case wired =>
    intro hwired
    have := randomValue_lt s
    have := wired_le_randomValue hwired
    rw [BitVec.toNat_ofNat]
    omega
  case mfc0Random =>
    have h := exec_mfc0_of_usable rt 1 hcp0
    rw [cp0Read_random, sext32_lo32_ofNat (randomValue_lt s)] at h
    exact writesGpr_of_exec_draws h
  case dmfc0Random => exact writesGpr_of_exec_draws (exec_dmfc0_of_usable rt 1 hcp0)
  case ctc0 =>
    refine ⟨Vector.getElem_set_self .., fun k hk hne => Vector.getElem_set_ne (reg_lt rd) hk hne.symm, rfl, rfl, rfl,
      rfl, rfl,
      fun r _ => readGpr_of_gpr r rfl, ?_⟩
    simp [FlowSame, HiLoSame, FprsSame, FpControlSame, Cp0Same, LatchesSame, MemorySame, OutsideSame]

/-- Settles O47: both moves are a store of the writable bits, of the low word sign-extended or of all 64 bits. -/
theorem movesToSystemRegisters : Obligations.MovesToSystemRegisters := by
  unfold Obligations.MovesToSystemRegisters
  intro s rt rd hcp0 hreserved hcount hcompare
  exact ⟨moveToCell_spec hreserved hcount hcompare (exec_mtc0_of_usable rt rd hcp0),
    moveToCell_spec hreserved hcount hcompare (exec_dmtc0_of_usable rt rd hcp0)⟩

end Sys2Proof.Proofs
end

section
/-! SUPPORT. The TLB instructions (R460 to R465). -/

namespace Sys2Proof.Machine

variable {s t : State} {e : TlbEntry} {i n : Nat}

theorem indexField_eq (s : State) : indexField s = s.cp0.index.toNat % 64 := by
  simp [indexField, BitVec.extractLsb'_toNat]

/-! ### Writes (R462, R463) -/

theorem writeEntry_of_lt (h : i < 48) (s : State) :
    writeEntry i s = { s with tlb := s.tlb.set i (entryImage s.cp0) h } := dif_pos h

theorem writeEntry_of_ge (h : 48 ≤ i) (s : State) : writeEntry i s = s := dif_neg (Nat.not_lt.mpr h)

theorem writeEntry_tlb_same (h : i < 48) (s : State) : (writeEntry i s).tlb[i]'h = entryImage s.cp0 := by
  rw [writeEntry_of_lt h]
  exact Vector.getElem_set_self h

theorem writeEntry_tlb_of_ne {k : Nat} (h : i < 48) (hk : k < 48) (hne : k ≠ i) (s : State) :
    (writeEntry i s).tlb[k]'hk = s.tlb[k]'hk := by
  rw [writeEntry_of_lt h]
  exact Vector.getElem_set_ne h hk hne.symm

/-- Storing the image of the registers into an entry, and no other entry. -/
theorem writeEntry_stores (h : i < 48) (s : State) :
    ∃ h : i < 48, (writeEntry i s).tlb[i]'h = entryImage s.cp0 ∧
      ∀ k (hk : k < 48), k ≠ i → (writeEntry i s).tlb[k]'hk = s.tlb[k]'hk :=
  ⟨h, writeEntry_tlb_same h s, fun _ hk hne => writeEntry_tlb_of_ne h hk hne s⟩

/-! ### Reads (R461) -/

theorem readEntry_of_lt (h : i < 48) (s : State) :
    readEntry i s = { s with cp0 := loadEntry (s.tlb[i]'h) s.cp0 } := dif_pos h

theorem readEntry_of_ge (h : 48 ≤ i) (s : State) : readEntry i s = s := dif_neg (Nat.not_lt.mpr h)

/-- Reading back the entry just written gives what its image gives. -/
theorem readEntry_writeEntry (h : i < 48) (s : State) :
    readEntry i (writeEntry i s) = { writeEntry i s with cp0 := loadEntry (entryImage s.cp0) s.cp0 } := by
  rw [readEntry_of_lt h, writeEntry_tlb_same h, writeEntry_cp0]

theorem cp0Usable_congr (h : t.cp0.status = s.cp0.status) : cp0Usable t = cp0Usable s := by
  rw [cp0Usable, cp0Usable, mode_congr h, statusBit, statusBit, h]

theorem readEntry_cp0_rest (i : Nat) (s : State) : { (readEntry i s).cp0 with
    pageMask := s.cp0.pageMask, entryHi := s.cp0.entryHi, entryLo0 := s.cp0.entryLo0,
    entryLo1 := s.cp0.entryLo1 } = s.cp0 := by
  unfold readEntry
  split <;> rfl

/-! ### Fields put in place and taken out -/

section Fields

variable {len lo : Nat}

theorem getLsbD_placed (v : BitVec len) (h : lo + len ≤ n) (j : Nat) :
    (v.setWidth n <<< lo).getLsbD j = (decide (lo ≤ j) && v.getLsbD (j - lo)) := by
  rw [BitVec.getLsbD_shiftLeft, BitVec.getLsbD_setWidth]
  by_cases hlo : lo ≤ j
  · by_cases hj : j - lo < len
    · simp [hlo, show j < n by omega, show ¬ j < lo by omega, show j - lo < n by omega]
    · simp [BitVec.getLsbD_of_ge v (j - lo) (by omega)]
  · simp [hlo, show j < lo by omega]

/-- A field reads back where it was placed. -/
theorem extractLsb'_placed_same (v : BitVec len) (h : lo + len ≤ n) :
    (v.setWidth n <<< lo).extractLsb' lo len = v := by
  apply BitVec.eq_of_getLsbD_eq
  intro j hj
  rw [BitVec.getLsbD_extractLsb', getLsbD_placed v h]
  simp [hj]

/-- Beside a placed field there is nothing. -/
theorem extractLsb'_placed_disjoint {lo' len' : Nat} (v : BitVec len) (h : lo + len ≤ n)
    (hd : lo' + len' ≤ lo ∨ lo + len ≤ lo') : (v.setWidth n <<< lo).extractLsb' lo' len' = 0#len' := by
  apply BitVec.eq_of_getLsbD_eq
  intro j hj
  rw [BitVec.getLsbD_extractLsb', getLsbD_placed v h, BitVec.getLsbD_zero]
  obtain hd | hd := hd
  · simp [show ¬ lo ≤ lo' + j by omega]
  · simp [BitVec.getLsbD_of_ge v (lo' + j - lo) (by omega)]

/-- Taking a field out and placing it again keeps the bits of the field alone. -/
theorem getLsbD_replaced (v : BitVec n) (h : lo + len ≤ n) (j : Nat) :
    ((v.extractLsb' lo len).setWidth n <<< lo).getLsbD j = (decide (lo ≤ j ∧ j < lo + len) && v.getLsbD j) := by
  rw [getLsbD_placed _ h, BitVec.getLsbD_extractLsb']
  by_cases hlo : lo ≤ j
  · have hin : j - lo < len ↔ j < lo + len := by omega
    rw [Nat.add_sub_cancel' hlo]
    simp [hlo, hin]
  · simp [hlo]

/-- A bit under a mask that is clear. -/
theorem getLsbD_of_and_eq_zero {v mask : BitVec n} (h : v &&& mask = 0) {j : Nat} (hj : mask.getLsbD j = true) :
    v.getLsbD j = false := by
  have hbit := congrArg (·.getLsbD j) h
  simpa [hj] using hbit

end Fields

/-! ### The registers that an entry gives (R460, R461) -/

theorem placed_zero {m : Nat} (v : BitVec m) : v.setWidth n = v.setWidth n <<< 0 := (BitVec.shiftLeft_zero _).symm

theorem pageMaskOf_mask (e : TlbEntry) : (pageMaskOf e).extractLsb' 13 12 = e.mask :=
  extractLsb'_placed_same e.mask (by decide)

theorem pageMaskOf_reserved (e : TlbEntry) : pageMaskOf e &&& 0xFE001FFF#32 = 0 :=
  shiftLeft_setWidth_and_of_disjoint e.mask _ (by decide)

theorem entryHiOf_region (e : TlbEntry) : (entryHiOf e).extractLsb' 62 2 = e.r := by
  rw [entryHiOf, placed_zero e.asid, BitVec.extractLsb'_or, BitVec.extractLsb'_or,
    extractLsb'_placed_same _ (by decide), extractLsb'_placed_disjoint _ (by decide) (by decide),
    extractLsb'_placed_disjoint _ (by decide) (by decide), BitVec.or_zero, BitVec.or_zero]

theorem entryHiOf_vpn2 (e : TlbEntry) : (entryHiOf e).extractLsb' 13 27 = e.vpn2 := by
  rw [entryHiOf, placed_zero e.asid, BitVec.extractLsb'_or, BitVec.extractLsb'_or,
    extractLsb'_placed_same _ (by decide), extractLsb'_placed_disjoint _ (by decide) (by decide),
    extractLsb'_placed_disjoint _ (by decide) (by decide), BitVec.or_zero, BitVec.zero_or]

theorem entryHiOf_asid (e : TlbEntry) : (entryHiOf e).extractLsb' 0 8 = e.asid := by
  rw [entryHiOf, placed_zero e.asid, BitVec.extractLsb'_or, BitVec.extractLsb'_or,
    extractLsb'_placed_same _ (by decide), extractLsb'_placed_disjoint _ (by decide) (by decide),
    extractLsb'_placed_disjoint _ (by decide) (by decide), BitVec.or_zero, BitVec.zero_or]

theorem entryLoOf_half (half : BitVec 29) (g : Bool) : (entryLoOf half g).extractLsb' 1 29 = half := by
  rw [entryLoOf, placed_zero (BitVec.ofBool g), BitVec.extractLsb'_or, extractLsb'_placed_same _ (by decide),
    extractLsb'_placed_disjoint _ (by decide) (by decide), BitVec.or_zero]

theorem entryLoOf_global (half : BitVec 29) (g : Bool) : (entryLoOf half g).getLsbD 0 = g := by
  rw [entryLoOf, placed_zero (BitVec.ofBool g), BitVec.getLsbD_or, getLsbD_placed _ (by decide),
    getLsbD_placed _ (by decide)]
  simp

theorem entryLoOf_above (half : BitVec 29) (g : Bool) : (entryLoOf half g).extractLsb' 30 34 = 0 := by
  rw [entryLoOf, placed_zero (BitVec.ofBool g), BitVec.extractLsb'_or,
    extractLsb'_placed_disjoint _ (by decide) (by decide), extractLsb'_placed_disjoint _ (by decide) (by decide)]
  exact BitVec.or_zero

/-! ### The round trip (R465) -/

theorem pageMaskOf_entryImage {c : Cp0} (h : c.pageMask &&& 0xFE001FFF#32 = 0) :
    pageMaskOf (entryImage c) = c.pageMask := by
  have hclear : ∀ j < 32, ¬ (13 ≤ j ∧ j < 25) → (0xFE001FFF#32).getLsbD j = true := by decide
  apply BitVec.eq_of_getLsbD_eq
  intro j hj
  rw [pageMaskOf, entryImage, getLsbD_replaced _ (by decide)]
  by_cases hin : 13 ≤ j ∧ j < 25
  · simp [hin]
  · simp [hin, getLsbD_of_and_eq_zero h (hclear j hj hin)]

theorem entryHiOf_entryImage {c : Cp0} (h : c.entryHi &&& 0x3FFFFF0000001F00#64 = 0) :
    entryHiOf (entryImage c) = c.entryHi := by
  have hclear : ∀ j < 64, ¬ (62 ≤ j ∨ (13 ≤ j ∧ j < 40) ∨ j < 8) → (0x3FFFFF0000001F00#64).getLsbD j = true := by
    decide
  apply BitVec.eq_of_getLsbD_eq
  intro j hj
  rw [entryHiOf, placed_zero (entryImage c).asid, BitVec.getLsbD_or, BitVec.getLsbD_or, entryImage,
    getLsbD_replaced _ (by decide), getLsbD_replaced _ (by decide), getLsbD_replaced _ (by decide)]
  by_cases hin : 62 ≤ j ∨ (13 ≤ j ∧ j < 40) ∨ j < 8
  · obtain hr | hvpn | hasid := hin
    · simp [hr, show ¬ j < 40 by omega, show ¬ j < 8 by omega, show j < 64 by omega]
    · simp [hvpn, show ¬ 62 ≤ j by omega]
    · simp [hasid, show ¬ 62 ≤ j by omega]
  · simp [getLsbD_of_and_eq_zero h (hclear j hj hin)]

/-! ### The probe (R464) -/

/-- An entry that answers a probe: region and masked VPN2 are those of EntryHi, and it is global or of its space. -/
def AnswersProbe (hi : Word) (e : TlbEntry) : Prop :=
  e.r = hi.extractLsb' 62 2 ∧
    e.vpn2 &&& ~~~(e.mask.setWidth 27) = hi.extractLsb' 13 27 &&& ~~~(e.mask.setWidth 27) ∧
    (e.g = true ∨ e.asid = hi.extractLsb' 0 8)

theorem probeMatches_iff (hi : Word) (e : TlbEntry) : probeMatches hi e = true ↔ AnswersProbe hi e := by
  rw [probeMatches, vpnMatches64, asidMatches, Bool.and_eq_true, Bool.and_eq_true, Bool.or_eq_true,
    decide_eq_true_eq, decide_eq_true_eq, decide_eq_true_eq, eq_comm (b := e.r),
    eq_comm (b := e.vpn2 &&& keepBits e), and_assoc]
  rfl

theorem probeResult_of_first (h : i < 48) (hi : AnswersProbe s.cp0.entryHi (s.tlb[i]'h))
    (hfirst : ∀ k (hk : k < i), ¬ AnswersProbe s.cp0.entryHi (s.tlb[k]'(by omega))) :
    probeResult s = BitVec.ofNat 32 i := by
  have hindex : probeIndex s = some i := by
    rw [probeIndex, List.findIdx?_eq_some_iff_getElem]
    refine ⟨by simpa using h, ?_, fun k hk => ?_⟩
    · rw [probeMatches_iff, Vector.getElem_toList]
      exact hi
    · rw [probeMatches_iff, Vector.getElem_toList]
      exact hfirst k hk
  simp only [probeResult, hindex]

theorem probeResult_of_none (h : ∀ i (h : i < 48), ¬ AnswersProbe s.cp0.entryHi (s.tlb[i]'h)) :
    probeResult s = 0x80000000#32 := by
  have hindex : probeIndex s = none := by
    rw [probeIndex, List.findIdx?_eq_none_iff]
    intro e he
    obtain ⟨k, hk, rfl⟩ := List.getElem_of_mem he
    rw [Vector.length_toList] at hk
    rw [← Bool.not_eq_true, probeMatches_iff, Vector.getElem_toList]
    exact h k hk
  simp only [probeResult, hindex]

end Sys2Proof.Machine

namespace Sys2Proof.Proofs

open Sys2Proof.Machine

/-- Settles O48: both store the image into one entry; the one that `TLBWR` draws is below 48 and not wired. -/
theorem tlbWrites : Obligations.TlbWrites := by
  unfold Obligations.TlbWrites
  intro s hcp0
  dsimp only
  rw [← indexField_eq]
  refine ⟨⟨writeEntry (indexField s) s, requireCp0_of_usable hcp0, ?frame, fun h => ?stored, fun h => ?outside⟩,
    ⟨writeEntry (randomValue s) { s with draws := s.draws + 1 }, randomValue s, requireCp0_of_usable hcp0, ?frameRandom,
      ?storedRandom, wired_le_randomValue⟩⟩
  case frame | frameRandom =>
    refine ⟨fun r _ => readGpr_of_gpr r (by simp), ?_⟩
    simp [FlowSame, HiLoSame, FprsSame, FpControlSame, Cp0Same, LatchesSame, MemorySame, OutsideSame]
  case stored =>
    obtain ⟨hi, himage, hrest⟩ := writeEntry_stores (i := indexField s) (by omega) s
    exact ⟨hi, by rw [himage]; exact ⟨rfl, rfl, rfl, rfl, rfl, rfl, rfl⟩, hrest⟩
  case outside => rw [writeEntry_of_ge h]
  case storedRandom =>
    obtain ⟨hi, himage, hrest⟩ := writeEntry_stores (randomValue_lt s) { s with draws := s.draws + 1 }
    exact ⟨hi, by rw [himage]; exact ⟨rfl, rfl, rfl, rfl, rfl, rfl, rfl⟩, hrest⟩

/-- Settles O49: the fields read back from where `ReadEntry` places them; with clear reserved bits the fields are all of
PageMask and EntryHi. -/
theorem tlbReadAndRoundTrip : Obligations.TlbReadAndRoundTrip := by
  unfold Obligations.TlbReadAndRoundTrip
  refine ⟨fun s hcp0 => ?read, fun s t hcp0 hreserved hwrite hindex => ?roundTrip⟩
  case read =>
    dsimp only
    simp only [← indexField_eq]
    refine ⟨readEntry (indexField s) s, requireCp0_of_usable hcp0, fun h => ?_, fun h => readEntry_of_ge h s,
      readEntry_cp0_rest _ s, fun r _ => readGpr_of_gpr r (by simp), ?_⟩
    · rw [readEntry_of_lt h]
      exact ⟨pageMaskOf_mask _, pageMaskOf_reserved _, entryHiOf_region _, entryHiOf_vpn2 _, entryHiOf_asid _,
        entryHiOf_reserved _, entryLoOf_half _ _, entryLoOf_half _ _, entryLoOf_global _ _, entryLoOf_global _ _,
        entryLoOf_above _ _, entryLoOf_above _ _⟩
    · simp [FlowSame, HiLoSame, FprsSame, FpControlSame, SystemRestSame, LatchesSame, MemorySame, OutsideSame]
  case roundTrip =>
    obtain ⟨-, -, -, -, hpageMask, -, hentryHi, -, -⟩ := hreserved
    have hlt : indexField s < 48 := by rw [indexField_eq]; omega
    obtain rfl : writeEntry (indexField s) s = t := by
      simpa [show exec .tlbwi s = .next (writeEntry (indexField s) s) from requireCp0_of_usable hcp0] using hwrite
    have hread := readEntry_writeEntry hlt s
    refine ⟨readEntry (indexField s) (writeEntry (indexField s) s), ?_, ?_⟩
    · have hindex : indexField (writeEntry (indexField s) s) = indexField s := by simp [indexField]
      have husable := (cp0Usable_congr (congrArg Cp0.status (writeEntry_cp0 s (indexField s)))).trans hcp0
      exact (requireCp0_of_usable husable).trans (by rw [hindex])
    · rw [hread]
      exact ⟨pageMaskOf_entryImage hpageMask, entryHiOf_entryImage hentryHi, entryLoOf_half _ _, entryLoOf_half _ _,
        entryLoOf_global _ _, entryLoOf_global _ _⟩

/-- Settles O50: the probe's match is `AnswersProbe`, and the index found is that of the first such entry. -/
theorem tlbProbe : Obligations.TlbProbe := by
  unfold Obligations.TlbProbe
  intro s hcp0
  refine ⟨_, requireCp0_of_usable hcp0, fun i h => probeResult_of_first h, probeResult_of_none, rfl,
    fun r _ => readGpr_of_gpr r rfl, ?_⟩
  simp [FlowSame, HiLoSame, FprsSame, FpControlSame, SystemRestSame, LatchesSame, MemorySame, OutsideSame]

end Sys2Proof.Proofs
end

section
/-! SUPPORT. The floating-point registers, their control register, moves, sign operations and compares
(R57 to R62, R362 to R367, R391, R398 to R400, R414 to R417, R425). -/

namespace Sys2Proof.Machine

variable {s t : State} {i : Instr} {fd fs : Reg} {b : Bool} {c : Prop}

/-! ### Results of `FpNumerics` (R391) -/

theorem writesFpr32_of_exec_draws {draws : Nat} {v : Word32} {P : Word32 → Prop}
    (h : exec i s = .next (writeFpr32 fd v { s with draws := draws })) (hv : P v) : WritesFpr32 i s fd P :=
  ⟨_, h, by rwa [readFpr32_writeFpr32], otherHalfSame_writeFpr32 (s := { s with draws := draws }) fd v,
    otherFprCellsSame_writeFpr64 (s := { s with draws := draws }) fd _, fun r _ => readGpr_of_gpr r rfl, by
    simp [FlowSame, HiLoSame, FpControlSame, Cp0Same, SystemRestSame, LatchesSame, MemorySame, OutsideSame]⟩

theorem writesFpr64_of_exec_draws {draws : Nat} {v : Word} {P : Word → Prop}
    (h : exec i s = .next (writeFpr64 fd v { s with draws := draws })) (hv : P v) : WritesFpr64 i s fd P :=
  ⟨_, h, by rwa [readFpr64_writeFpr64], otherFprCellsSame_writeFpr64 (s := { s with draws := draws }) fd v,
    fun r _ => readGpr_of_gpr r rfl, by
    simp [FlowSame, HiLoSame, FpControlSame, Cp0Same, SystemRestSame, LatchesSame, MemorySame, OutsideSame]⟩

theorem magnitudeOf_binary32 (bits : Nat) : magnitudeOf binary32 bits = bits % 2 ^ 31 := rfl

theorem magnitudeOf_binary64 (bits : Nat) : magnitudeOf binary64 bits = bits % 2 ^ 63 := rfl

theorem infinityMagnitude_binary32 : infinityMagnitude binary32 = (2 ^ 8 - 1) * 2 ^ 23 := rfl

theorem infinityMagnitude_binary64 : infinityMagnitude binary64 = (2 ^ 11 - 1) * 2 ^ 52 := rfl

theorem isNan_nanPattern32 (w : Word) : isNan binary32 (nanPattern32 w).toNat = true := by
  have hsign := (BitVec.ofBool (w.getLsbD 31)).isLt
  have hfrac : ∀ x : BitVec 23, 0 < (if x = 0 then 1#23 else x).toNat := by
    intro x
    split
    · decide
    · exact Nat.pos_of_ne_zero (mt toNat_eq_zero_iff.mp ‹_›)
  have hpos := hfrac (w.extractLsb' 0 23)
  have hlt := (if w.extractLsb' 0 23 = 0 then 1#23 else w.extractLsb' 0 23).isLt
  rw [isNan, decide_eq_true_eq, nanPattern32, BitVec.toNat_append, BitVec.toNat_append,
    ← Nat.shiftLeft_add_eq_or_of_lt hlt, ← Nat.shiftLeft_add_eq_or_of_lt (BitVec.allOnes 8).isLt, Nat.shiftLeft_eq,
    Nat.shiftLeft_eq, BitVec.toNat_allOnes, magnitudeOf_binary32, infinityMagnitude_binary32]
  omega

theorem isNan_nanPattern64 (w : Word) : isNan binary64 (nanPattern64 w).toNat = true := by
  have hsign := (BitVec.ofBool (w.getLsbD 63)).isLt
  have hfrac : ∀ x : BitVec 52, 0 < (if x = 0 then 1#52 else x).toNat := by
    intro x
    split
    · decide
    · exact Nat.pos_of_ne_zero (mt toNat_eq_zero_iff.mp ‹_›)
  have hpos := hfrac (w.extractLsb' 0 52)
  have hlt := (if w.extractLsb' 0 52 = 0 then 1#52 else w.extractLsb' 0 52).isLt
  rw [isNan, decide_eq_true_eq, nanPattern64, BitVec.toNat_append, BitVec.toNat_append,
    ← Nat.shiftLeft_add_eq_or_of_lt hlt, ← Nat.shiftLeft_add_eq_or_of_lt (BitVec.allOnes 11).isLt, Nat.shiftLeft_eq,
    Nat.shiftLeft_eq, BitVec.toNat_allOnes, magnitudeOf_binary64, infinityMagnitude_binary64]
  omega

/-- A register holds the pattern of a result, or some NaN where the result is one (R391). -/
def HoldsResult {n : Nat} (f : FpFormat) (r : Option Nat) (v : BitVec n) : Prop :=
  match r with
  | some p => v = BitVec.ofNat n p
  | none => isNan f v.toNat = true

/-- A binary32 result written or drawn. -/
theorem writesFpr32_of_writeResult32 {r : Option Word32} {P : Word32 → Prop}
    (h : exec i s = .next (writeResult32 fd r s)) (hsome : ∀ v, r = some v → P v)
    (hnone : r = none → ∀ w, P (nanPattern32 w)) : WritesFpr32 i s fd P := by
  cases r with
  | some v => exact writesFpr32_of_exec h (hsome v rfl)
  | none => exact writesFpr32_of_exec_draws h (hnone rfl _)

theorem writesFpr64_of_writeResult64 {r : Option Word} {P : Word → Prop}
    (h : exec i s = .next (writeResult64 fd r s)) (hsome : ∀ v, r = some v → P v)
    (hnone : r = none → ∀ w, P (nanPattern64 w)) : WritesFpr64 i s fd P := by
  cases r with
  | some v => exact writesFpr64_of_exec h (hsome v rfl)
  | none => exact writesFpr64_of_exec_draws h (hnone rfl _)

theorem arith32_rule {fn : FpFun} {x y : Word32} (hcp1 : s.cp0.status.getLsbD 29 = true)
    (h : exec i s = arith32 fn fd x y s) : WritesFpr32 i s fd fun v => s.cfg.numerics = .specDefault →
      HoldsResult binary32 (ieeeFunction binary32 fn (roundingMode s) x.toNat y.toNat) v := by
  refine writesFpr32_of_writeResult32 (h.trans (requireCp1_of_enabled hcp1)) (fun v hv hdefault => ?_)
    (fun hnone w hdefault => ?_)
  · rw [fpFunction32, hdefault, Option.map_eq_some_iff] at hv
    obtain ⟨p, hp, rfl⟩ := hv
    rw [hp]
    rfl
  · rw [fpFunction32, hdefault, Option.map_eq_none_iff] at hnone
    rw [hnone]
    exact isNan_nanPattern32 w

theorem arith64_rule {fn : FpFun} {x y : Word} (hcp1 : s.cp0.status.getLsbD 29 = true)
    (h : exec i s = arith64 fn fd x y s) : WritesFpr64 i s fd fun v => s.cfg.numerics = .specDefault →
      HoldsResult binary64 (ieeeFunction binary64 fn (roundingMode s) x.toNat y.toNat) v := by
  refine writesFpr64_of_writeResult64 (h.trans (requireCp1_of_enabled hcp1)) (fun v hv hdefault => ?_)
    (fun hnone w hdefault => ?_)
  · rw [fpFunction64, hdefault, Option.map_eq_some_iff] at hv
    obtain ⟨p, hp, rfl⟩ := hv
    rw [hp]
    rfl
  · rw [fpFunction64, hdefault, Option.map_eq_none_iff] at hnone
    rw [hnone]
    exact isNan_nanPattern64 w

/-! ### Patterns written as they are (R398 to R400, R414 to R417) -/

theorem put32_rule {v : Word32} {P : Word32 → Prop} (hcp1 : s.cp0.status.getLsbD 29 = true)
    (h : exec i s = put32 fd v s) (hv : P v) : WritesFpr32 i s fd P :=
  writesFpr32_of_exec (h.trans (requireCp1_of_enabled hcp1)) hv

theorem put64_rule {v : Word} {P : Word → Prop} (hcp1 : s.cp0.status.getLsbD 29 = true)
    (h : exec i s = put64 fd v s) (hv : P v) : WritesFpr64 i s fd P :=
  writesFpr64_of_exec (h.trans (requireCp1_of_enabled hcp1)) hv

theorem moveIf32_rule (hcp1 : s.cp0.status.getLsbD 29 = true) (h : exec i s = moveIf32 b fd fs s)
    (hb : b = true ↔ c) :
    (c → WritesFpr32 i s fd fun v => v = readFpr32 fs s) ∧ (¬ c → DoesNothing i s) := by
  have hmove := h.trans (requireCp1_of_enabled hcp1)
  exact ⟨fun hc => writesFpr32_of_exec (hmove.trans (if_pos (hb.mpr hc))) rfl,
    fun hc => hmove.trans (if_neg (mt hb.mp hc))⟩

theorem moveIf64_rule (hcp1 : s.cp0.status.getLsbD 29 = true) (h : exec i s = moveIf64 b fd fs s)
    (hb : b = true ↔ c) :
    (c → WritesFpr64 i s fd fun v => v = readFpr64 fs s) ∧ (¬ c → DoesNothing i s) := by
  have hmove := h.trans (requireCp1_of_enabled hcp1)
  exact ⟨fun hc => writesFpr64_of_exec (hmove.trans (if_pos (hb.mpr hc))) rfl,
    fun hc => hmove.trans (if_neg (mt hb.mp hc))⟩

theorem getLsbD_xor_twoPow {n : Nat} (x : BitVec n) {j : Nat} (hj : j < n) (k : Nat) :
    (x ^^^ BitVec.twoPow n j).getLsbD k = (x.getLsbD k ^^ decide (k = j)) := by
  rw [BitVec.getLsbD_xor, BitVec.getLsbD_twoPow, decide_eq_true hj, Bool.true_and]
  simp [eq_comm]

theorem abs32_getLsbD (x : Word32) (k : Nat) : (x &&& 0x7FFFFFFF#32).getLsbD k = (x.getLsbD k && decide (k ≠ 31)) := by
  rw [show 0x7FFFFFFF#32 = ~~~BitVec.twoPow 32 31 by decide, getLsbD_and_not_twoPow]

theorem abs64_getLsbD (x : Word) (k : Nat) :
    (x &&& 0x7FFFFFFFFFFFFFFF#64).getLsbD k = (x.getLsbD k && decide (k ≠ 63)) := by
  rw [show 0x7FFFFFFFFFFFFFFF#64 = ~~~BitVec.twoPow 64 63 by decide, getLsbD_and_not_twoPow]

theorem neg32_getLsbD (x : Word32) (k : Nat) : (x ^^^ 0x80000000#32).getLsbD k = (x.getLsbD k ^^ decide (k = 31)) := by
  rw [show 0x80000000#32 = BitVec.twoPow 32 31 by decide, getLsbD_xor_twoPow _ (by decide)]

theorem neg64_getLsbD (x : Word) (k : Nat) :
    (x ^^^ 0x8000000000000000#64).getLsbD k = (x.getLsbD k ^^ decide (k = 63)) := by
  rw [show 0x8000000000000000#64 = BitVec.twoPow 64 63 by decide, getLsbD_xor_twoPow _ (by decide)]

/-! ### Condition bits (R62, R425) -/

theorem readFcc_writeFcc (cc k : Nat) (hk : k < 8) (b : Bool) (s : State) :
    readFcc k (writeFcc cc b s) = if k = cc then b else readFcc k s := by
  rw [readFcc, writeFcc, getLsbD_insertField _ _ hk]
  by_cases hkc : k = cc
  · simp [hkc]
  · rw [if_neg (by omega), if_neg hkc]
    rfl

theorem writesFcc_of_exec {cc : Nat} (hcc : cc < 8) (h : exec i s = .next (writeFcc cc b s)) :
    WritesFcc i s cc b := by
  refine ⟨_, h, (readFcc_writeFcc cc cc hcc b s).trans (if_pos rfl),
    fun k hk hne => (readFcc_writeFcc cc k hk b s).trans (if_neg hne), rfl, fun r _ => readGpr_of_gpr r rfl, ?_⟩
  simp [FlowSame, HiLoSame, FprsSame, Cp0Same, SystemRestSame, LatchesSame, MemorySame, OutsideSame]

theorem compare_rule {cc : Nat} {d : Bool} (hcp1 : s.cp0.status.getLsbD 29 = true) (hcc : cc < 8)
    (h : exec i s = requireCp1 s (.next (writeFcc cc d s))) (hd : d = b) : WritesFcc i s cc b :=
  writesFcc_of_exec hcc (hd ▸ h.trans (requireCp1_of_enabled hcp1))

/-- The outcomes that the sixteen conditions count: bit 3 of the condition does not matter. -/
theorem conditionBit_spec (o : CompareOutcome) :
    (conditionBit 0 o = false ∧ conditionBit 1 o = o.unordered ∧ conditionBit 2 o = o.equal ∧
      conditionBit 3 o = (o.unordered || o.equal) ∧ conditionBit 4 o = o.less ∧
      conditionBit 5 o = (o.unordered || o.less) ∧ conditionBit 6 o = (o.less || o.equal) ∧
      conditionBit 7 o = (o.unordered || o.less || o.equal)) ∧
    ∀ cond : BitVec 4, conditionBit (cond ||| 8) o = conditionBit cond o := by
  obtain ⟨less, equal, unordered⟩ := o
  revert less equal unordered
  decide

/-! ### The control register (R61, R62) -/

theorem getLsbD_fcsrRead {k : Nat} (hk : k < 32) : (fcsrRead s).getLsbD k =
    if k = 23 then s.fcc.getLsbD 0 else if 25 ≤ k then s.fcc.getLsbD (k - 24) else (fcsrCell s).getLsbD k := by
  have hmask : ∀ k < 32, (0x017FFFFF#32).getLsbD k = decide (k ≠ 23 ∧ k < 25) := by decide
  rw [fcsrRead, BitVec.getLsbD_or, BitVec.getLsbD_or, BitVec.getLsbD_and, getLsbD_placed _ (by decide),
    getLsbD_placed _ (by decide), hmask k hk, BitVec.getLsbD_extractLsb', BitVec.getLsbD_extractLsb']
  by_cases h23 : k = 23
  · simp [h23]
  · by_cases h25 : 25 ≤ k
    · simp [h23, h25, show ¬ k < 25 by omega, show ¬ k - 23 < 1 by omega, show k - 25 < 7 by omega,
        show 1 + (k - 25) = k - 24 by omega, -BitVec.getLsbD_eq_getElem]
    · simp [h23, h25, show k < 25 by omega, -BitVec.getLsbD_eq_getElem]
      omega

theorem fcsrWrite_fcc_getLsbD (v : Word32) {k : Nat} (hk : k < 8) :
    (fcsrWrite v s).fcc.getLsbD k = if k = 0 then v.getLsbD 23 else v.getLsbD (24 + k) := by
  change (v.extractLsb' 25 7 ++ v.extractLsb' 23 1).getLsbD k = _
  rw [BitVec.getLsbD_append, BitVec.getLsbD_extractLsb', BitVec.getLsbD_extractLsb']
  by_cases h0 : k = 0
  · simp [h0]
  · simp [h0, show ¬ k < 1 by omega, show k - 1 < 7 by omega, show 25 + (k - 1) = 24 + k by omega,
      -BitVec.getLsbD_eq_getElem]

theorem roundingMode_of_fcsrCell {v : Word32} (h : fcsrCell s = v) : roundingMode s =
    if v.toNat % 4 = 0 then .nearestEven else if v.toNat % 4 = 1 then .towardZero
      else if v.toNat % 4 = 2 then .up else .down := by
  have hrm : (v.extractLsb' 0 2).toNat = v.toNat % 4 := by simp [BitVec.extractLsb'_toNat]
  rw [roundingMode, h, roundingModeOf, hrm]
  split <;> simp_all

theorem readFpControl_of_ne {n : Reg} (h : n ≠ 31) (s : State) : readFpControl n s = s.ccr1[n.toNat]'(reg_lt n) :=
  if_neg h

theorem writeFpControl_fcsr (v : Word32) (s : State) : writeFpControl 31 v s = fcsrWrite v s := rfl

theorem writeFpControl_fcc_of_ne {n : Reg} (h : n ≠ 31) (v : Word32) (s : State) :
    (writeFpControl n v s).fcc = s.fcc := by
  unfold writeFpControl
  rw [if_neg h]
  split <;> rfl

theorem writeFpControl_ccr1_of_ne {n : Reg} (h : n ≠ 0) (v : Word32) (s : State) :
    (writeFpControl n v s).ccr1 = s.ccr1.set n.toNat v (reg_lt n) := by
  unfold writeFpControl
  rw [if_neg h]
  split
  · rename_i h31
    subst h31
    rfl
  · rfl

theorem onlyFpControl_writeFpControl (n : Reg) (v : Word32) (s : State) : OnlyFpControl s (writeFpControl n v s) := by
  refine ⟨fun r _ => readGpr_of_gpr r (by simp), ?_⟩
  simp [FlowSame, HiLoSame, FprsSame, Cp0Same, SystemRestSame, LatchesSame, MemorySame, OutsideSame]

/-! ### Pairs (R57 to R59) -/

theorem evenCell_pair : ∀ f : Reg, f.getLsbD 0 = false →
    evenCell f = f ∧ evenCell (f + 1) = f ∧ (f + 1).getLsbD 0 = true ∧ (f + 1).toNat ≠ f.toNat := by decide

/-- With `FR = 0` both registers of a pair name the even cell. -/
theorem fprCell_pair {f : Reg} (heven : f.getLsbD 0 = false) (hfr : s.cp0.status.getLsbD 26 = false) :
    fprCell f s = fprCell (f + 1) s := by
  obtain ⟨hcell, hcellOdd, -, -⟩ := evenCell_pair f heven
  rw [fprCell, fprCell, statusFr, statusBit, hfr, hcell, hcellOdd]
  rfl

theorem usesHighHalf_even {f : Reg} (heven : f.getLsbD 0 = false) (s : State) : usesHighHalf f s = false := by
  rw [usesHighHalf, heven, Bool.and_false]

theorem usesHighHalf_odd {f : Reg} (heven : f.getLsbD 0 = false) (hfr : s.cp0.status.getLsbD 26 = false) :
    usesHighHalf (f + 1) s = true := by
  obtain ⟨-, -, hodd, -⟩ := evenCell_pair f heven
  rw [usesHighHalf, hodd, statusFr, statusBit, hfr]
  rfl

theorem readFpr32_of_low {n : Reg} (h : usesHighHalf n s = false) : readFpr32 n s = lo32 (readFpr64 n s) :=
  if_neg (by simp [h])

theorem readFpr32_of_high {n : Reg} (h : usesHighHalf n s = true) : readFpr32 n s = hi32 (readFpr64 n s) := if_pos h

theorem writeFpr32_of_high {n : Reg} (h : usesHighHalf n s = true) (v : Word32) :
    writeFpr32 n v s = writeFpr64 n (join32 v (lo32 (readFpr64 n s))) s := by simp only [writeFpr32, h, if_true]

theorem readFpr64_eq_of_cell {m n : Reg} (h : fprCell m s = fprCell n s) : readFpr64 m s = readFpr64 n s := by
  simp only [readFpr64, h]

theorem readFpr64_writeFpr64_of_cell_eq {m n : Reg} (h : fprCell m s = fprCell n s) (v : Word) :
    readFpr64 m (writeFpr64 n v s) = v := by
  have hcell : fprCell m (writeFpr64 n v s) = fprCell n (writeFpr64 n v s) := h
  rw [readFpr64_eq_of_cell hcell, readFpr64_writeFpr64]

theorem readFpr64_writeFpr64_of_cell_ne {m n : Reg} (h : (fprCell m s).toNat ≠ (fprCell n s).toNat) (v : Word) :
    readFpr64 m (writeFpr64 n v s) = readFpr64 m s :=
  otherFprCellsSame_writeFpr64 n v _ (reg_lt _) h

end Sys2Proof.Machine

namespace Sys2Proof.Proofs

open Sys2Proof.Machine

/-- Settles O51: the moves are writes of one register; the control register is read and written bit by bit. -/
theorem floatingMoves : Obligations.FloatingMoves := by
  unfold Obligations.FloatingMoves
  intro s rt fs hcp1
  dsimp only
  refine ⟨writesGpr_of_exec (requireCp1_of_enabled hcp1), writesGpr_of_exec (requireCp1_of_enabled hcp1),
    writesFpr32_of_exec (requireCp1_of_enabled hcp1) rfl, writesFpr64_of_exec (requireCp1_of_enabled hcp1) rfl,
    ⟨readFpControl fs s, writesGpr_of_exec (requireCp1_of_enabled hcp1), fun h => readFpControl_of_ne h s, ?cfc1⟩,
    ⟨writeFpControl fs (lo32 (readGpr rt s)) s, requireCp1_of_enabled hcp1, onlyFpControl_writeFpControl _ _ s, ?zero,
      fun h => ?written, fun h => writeFpControl_fcc_of_ne h _ s, ?fcsr⟩⟩
  case cfc1 =>
    rintro rfl k hk
    exact getLsbD_fcsrRead hk
  case zero =>
    rintro rfl
    exact ⟨rfl, rfl⟩
  case written =>
    simp only [writeFpControl_ccr1_of_ne h]
    exact ⟨Vector.getElem_set_self _, fun k hk hne => Vector.getElem_set_ne (reg_lt fs) hk hne.symm⟩
  case fcsr =>
    rintro rfl
    rw [writeFpControl_fcsr]
    refine ⟨fcsrWrite_fcc_getLsbD _ (by decide), fun k h1 h8 => ?_, roundingMode_of_fcsrCell ?_⟩
    · rw [fcsrWrite_fcc_getLsbD _ h8, if_neg (by omega)]
    · exact Vector.getElem_set_self (by decide)

/-- Settles O52: with `FR = 0` both registers of a pair name the even cell, with `FR = 1` each its own. -/
theorem floatingRegisterPairs : Obligations.FloatingRegisterPairs := by
  unfold Obligations.FloatingRegisterPairs
  intro s f a b d heven
  refine ⟨fun hfr => ?half, fun hfr => ?full, fun v => rfl⟩
  case half =>
    have hcell := fprCell_pair heven hfr
    have hcellAfter : fprCell f (writeFpr32 f a s) = fprCell (f + 1) (writeFpr32 f a s) := hcell
    refine ⟨?words, ?high, ?low, (readFpr64_eq_of_cell hcell.symm)⟩
    case words =>
      rw [writeFpr32_of_high (usesHighHalf_odd (s := writeFpr32 f a s) heven hfr),
        readFpr64_writeFpr64_of_cell_eq hcellAfter,
        ← readFpr64_eq_of_cell hcellAfter, ← readFpr32_of_low (usesHighHalf_even heven _), readFpr32_writeFpr32]
      rfl
    case high =>
      rw [readFpr32_of_high (usesHighHalf_odd (s := writeFpr64 f d s) heven hfr),
        readFpr64_writeFpr64_of_cell_eq hcell.symm]
      rfl
    case low =>
      rw [readFpr32_of_low (usesHighHalf_even heven _), readFpr64_writeFpr64]
      rfl
  case full =>
    obtain ⟨-, -, -, hne⟩ := evenCell_pair f heven
    have hcell : ∀ n, fprCell n s = n := fun n => if_pos hfr
    refine ⟨readFpr64_writeFpr64_of_cell_ne ?_ d, ?_⟩
    · rwa [hcell, hcell]
    · rw [readFpr32_of_low (usesHighHalf_even heven _), readFpr64_writeFpr64]
      rfl

/-- Settles O53: the result of `FpNumerics`, or a drawn NaN, is written to the destination. -/
theorem floatingArithmetic : Obligations.FloatingArithmetic := by
  unfold Obligations.FloatingArithmetic
  intro s fd fs ft hcp1
  exact ⟨arith32_rule hcp1 rfl, arith32_rule hcp1 rfl, arith32_rule hcp1 rfl, arith32_rule hcp1 rfl,
    arith32_rule hcp1 rfl, arith32_rule hcp1 rfl, arith32_rule hcp1 rfl, arith64_rule hcp1 rfl,
    arith64_rule hcp1 rfl, arith64_rule hcp1 rfl, arith64_rule hcp1 rfl, arith64_rule hcp1 rfl,
    arith64_rule hcp1 rfl, arith64_rule hcp1 rfl⟩

/-- Settles O56: the sign operations touch the sign bit alone, and a conditional move is a copy or nothing. -/
theorem floatingSignsAndConditionalMoves : Obligations.FloatingSignsAndConditionalMoves := by
  unfold Obligations.FloatingSignsAndConditionalMoves
  intro s fd fs rt cc hcp1 hcc
  refine ⟨put32_rule hcp1 rfl fun k _ => abs32_getLsbD _ k, put32_rule hcp1 rfl rfl,
    put32_rule hcp1 rfl fun k _ => neg32_getLsbD _ k,
    put64_rule hcp1 rfl fun k _ => abs64_getLsbD _ k, put64_rule hcp1 rfl rfl,
      put64_rule hcp1 rfl fun k _ => neg64_getLsbD _ k,
    moveIf32_rule hcp1 rfl not_eq_true_iff_eq_false, moveIf32_rule hcp1 rfl Iff.rfl,
    moveIf32_rule hcp1 rfl decide_eq_true_iff, moveIf32_rule hcp1 rfl decide_eq_true_iff,
    moveIf64_rule hcp1 rfl not_eq_true_iff_eq_false, moveIf64_rule hcp1 rfl Iff.rfl,
    moveIf64_rule hcp1 rfl decide_eq_true_iff, moveIf64_rule hcp1 rfl decide_eq_true_iff⟩

/-- Settles O59: each compare writes the bit of its condition for the outcome of its format. -/
theorem compareInstructions : Obligations.CompareInstructions := by
  unfold Obligations.CompareInstructions
  intro s fs ft cc hcp1 hcc
  dsimp only
  obtain ⟨⟨hf, hun, heq, hueq, holt, hult, hole, hule⟩, hsame⟩ :=
    conditionBit_spec (compareValues binary32 (readFpr32 fs s).toNat (readFpr32 ft s).toNat)
  obtain ⟨⟨hfD, hunD, heqD, hueqD, holtD, hultD, holeD, huleD⟩, hsameD⟩ :=
    conditionBit_spec (compareValues binary64 (readFpr64 fs s).toNat (readFpr64 ft s).toNat)
  exact ⟨compare_rule hcp1 hcc rfl hf, compare_rule hcp1 hcc rfl hun, compare_rule hcp1 hcc rfl heq,
    compare_rule hcp1 hcc rfl hueq, compare_rule hcp1 hcc rfl holt, compare_rule hcp1 hcc rfl hult,
    compare_rule hcp1 hcc rfl hole, compare_rule hcp1 hcc rfl hule,
    compare_rule hcp1 hcc rfl ((hsame 0).trans hf), compare_rule hcp1 hcc rfl ((hsame 1).trans hun),
    compare_rule hcp1 hcc rfl ((hsame 2).trans heq), compare_rule hcp1 hcc rfl ((hsame 3).trans hueq),
    compare_rule hcp1 hcc rfl ((hsame 4).trans holt), compare_rule hcp1 hcc rfl ((hsame 5).trans hult),
    compare_rule hcp1 hcc rfl ((hsame 6).trans hole), compare_rule hcp1 hcc rfl ((hsame 7).trans hule),
    compare_rule hcp1 hcc rfl hfD, compare_rule hcp1 hcc rfl hunD, compare_rule hcp1 hcc rfl heqD,
    compare_rule hcp1 hcc rfl hueqD, compare_rule hcp1 hcc rfl holtD, compare_rule hcp1 hcc rfl hultD,
    compare_rule hcp1 hcc rfl holeD, compare_rule hcp1 hcc rfl huleD,
    compare_rule hcp1 hcc rfl ((hsameD 0).trans hfD), compare_rule hcp1 hcc rfl ((hsameD 1).trans hunD),
    compare_rule hcp1 hcc rfl ((hsameD 2).trans heqD), compare_rule hcp1 hcc rfl ((hsameD 3).trans hueqD),
    compare_rule hcp1 hcc rfl ((hsameD 4).trans holtD), compare_rule hcp1 hcc rfl ((hsameD 5).trans hultD),
    compare_rule hcp1 hcc rfl ((hsameD 6).trans holeD), compare_rule hcp1 hcc rfl ((hsameD 7).trans huleD)⟩

end Sys2Proof.Proofs
end

section
/-! SUPPORT. Floating-point patterns as numbers (R390, R392, R425): the classes of patterns, the value of a magnitude,
and the order of the values. -/

namespace Sys2Proof.Machine

variable {f : FpFormat} {a b g h : Nat}

/-! ### Classes of patterns (R392) -/

theorem magnitudeOf_lt (f : FpFormat) (a : Nat) : magnitudeOf f a < 2 ^ (f.expBits + f.fracBits) :=
  Nat.mod_lt _ (Nat.two_pow_pos _)

theorem infinityMagnitude_lt (f : FpFormat) : infinityMagnitude f < 2 ^ (f.expBits + f.fracBits) := by
  rw [infinityMagnitude, topExponentField, Nat.pow_add]
  exact Nat.mul_lt_mul_of_pos_right (Nat.sub_lt (Nat.two_pow_pos _) Nat.one_pos) (Nat.two_pow_pos _)

theorem isNan_eq_true_iff : isNan f a = true ↔ infinityMagnitude f < magnitudeOf f a := decide_eq_true_iff

theorem isNan_eq_false_iff : isNan f a = false ↔ magnitudeOf f a ≤ infinityMagnitude f := by
  rw [← Bool.not_eq_true, isNan_eq_true_iff, Nat.not_lt]

theorem pattern_trichotomy (f : FpFormat) (a : Nat) :
    IsFinitePattern f a ∨ IsInfinityPattern f a ∨ isNan f a = true := by
  rw [isNan_eq_true_iff]
  exact lt_trichotomy _ _

theorem isNan_of_finite (h : IsFinitePattern f a) : isNan f a = false := isNan_eq_false_iff.mpr h.le

theorem isNan_of_infinity (h : IsInfinityPattern f a) : isNan f a = false := isNan_eq_false_iff.mpr h.le

theorem not_infinity_of_finite (h : IsFinitePattern f a) : ¬ IsInfinityPattern f a := Nat.ne_of_lt h

/-! ### The exact value of a pattern (R390) -/

/-- The significand of a finite magnitude. -/
def significandOf (f : FpFormat) (g : Nat) : Nat :=
  if g / 2 ^ f.fracBits = 0 then g else 2 ^ f.fracBits + g % 2 ^ f.fracBits

/-- The exponent that goes with `significandOf`. -/
def exponentOf (f : FpFormat) (g : Nat) : Int :=
  if g / 2 ^ f.fracBits = 0 then minExponent f else minExponent f + ((g / 2 ^ f.fracBits : Nat) - 1)

theorem magnitudeValue_eq (f : FpFormat) (g : Nat) :
    magnitudeValue f g = significandOf f g * 2 ^ exponentOf f g := by
  unfold magnitudeValue significandOf exponentOf
  split <;> rfl

theorem significandOf_eq_zero_iff : significandOf f g = 0 ↔ g = 0 := by
  unfold significandOf
  split
  · rfl
  · rename_i hq
    refine ⟨fun h => ?_, fun h => absurd (by simp [h]) hq⟩
    have := Nat.two_pow_pos f.fracBits
    omega

theorem significandOf_lt (f : FpFormat) (g : Nat) : significandOf f g < 2 ^ (f.fracBits + 1) := by
  have hpos := Nat.two_pow_pos f.fracBits
  have hmod := Nat.mod_lt g hpos
  unfold significandOf
  split
  · have := (Nat.div_eq_zero_iff_lt hpos).mp ‹_›
    rw [Nat.pow_succ]
    omega
  · rw [Nat.pow_succ]
    omega

theorem unpack_of_finite (h : IsFinitePattern f a) : unpack f a =
    .finite (signOf f a) (significandOf f (magnitudeOf f a)) (exponentOf f (magnitudeOf f a)) := by
  have hpos := Nat.two_pow_pos f.fracBits
  have htop : magnitudeOf f a / 2 ^ f.fracBits ≠ topExponentField f :=
    Nat.ne_of_lt (Nat.div_lt_of_lt_mul (by rw [Nat.mul_comm]; exact h))
  unfold unpack significandOf exponentOf
  simp only [htop, if_false]
  split
  · rw [Nat.mod_eq_of_lt ((Nat.div_eq_zero_iff_lt hpos).mp ‹_›)]
  · rfl

theorem unpack_of_infinity (h : IsInfinityPattern f a) : unpack f a = .infinity (signOf f a) := by
  have hpos := Nat.two_pow_pos f.fracBits
  have hmag : magnitudeOf f a = topExponentField f * 2 ^ f.fracBits := h
  simp [unpack, hmag, Nat.mul_div_cancel _ hpos]

theorem unpack_of_nan (h : isNan f a = true) : unpack f a = .nan := by
  have hpos := Nat.two_pow_pos f.fracBits
  have hlt := magnitudeOf_lt f a
  have hinf : topExponentField f * 2 ^ f.fracBits < magnitudeOf f a := isNan_eq_true_iff.mp h
  rw [Nat.pow_add] at hlt
  have hexp : magnitudeOf f a / 2 ^ f.fracBits = topExponentField f := by
    refine Nat.le_antisymm (Nat.le_sub_one_of_lt (Nat.div_lt_of_lt_mul (by rwa [Nat.mul_comm]))) ?_
    exact (Nat.le_div_iff_mul_le hpos).mpr hinf.le
  have hfrac : magnitudeOf f a % 2 ^ f.fracBits ≠ 0 := by
    intro hzero
    have hsplit := Nat.div_add_mod' (magnitudeOf f a) (2 ^ f.fracBits)
    rw [hexp, hzero] at hsplit
    omega
  simp [unpack, hexp, hfrac]

/-- The value of a finite pattern, by its significand with the sign. -/
theorem patternValue_eq (f : FpFormat) (a : Nat) : patternValue f a =
    (signedSignificand (signOf f a) (significandOf f (magnitudeOf f a)) : ℚ) * 2 ^ exponentOf f (magnitudeOf f a) := by
  rw [patternValue, magnitudeValue_eq, signedSignificand]
  split <;> push_cast <;> ring

/-! ### The values of neighbouring magnitudes -/

/-- A magnitude by a multiple of the exponent step and a significand, which may just overflow. -/
theorem magnitudeValue_of_split {d K : Nat} (hd : d = 0 ∨ 2 ^ f.fracBits ≤ K) (hK : K ≤ 2 ^ (f.fracBits + 1)) :
    magnitudeValue f (d * 2 ^ f.fracBits + K) = K * 2 ^ (minExponent f + d) := by
  have hpos := Nat.two_pow_pos f.fracBits
  rw [Nat.pow_succ] at hK
  obtain hlow | hlow := Nat.lt_or_ge K (2 ^ f.fracBits)
  · obtain rfl : d = 0 := by omega
    simp [magnitudeValue, Nat.div_eq_of_lt hlow]
  obtain hhigh | hhigh := Nat.lt_or_ge K (2 ^ f.fracBits * 2)
  · obtain ⟨r, rfl⟩ := Nat.exists_eq_add_of_le hlow
    have hr : r < 2 ^ f.fracBits := by omega
    have hg : d * 2 ^ f.fracBits + (2 ^ f.fracBits + r) = (d + 1) * 2 ^ f.fracBits + r := by ring
    have hdiv : ((d + 1) * 2 ^ f.fracBits + r) / 2 ^ f.fracBits = d + 1 := by
      rw [Nat.mul_comm, Nat.mul_add_div hpos, Nat.div_eq_of_lt hr, Nat.add_zero]
    have hmod : ((d + 1) * 2 ^ f.fracBits + r) % 2 ^ f.fracBits = r := by
      rw [Nat.mul_comm, Nat.mul_add_mod, Nat.mod_eq_of_lt hr]
    rw [hg, magnitudeValue, hdiv, hmod, if_neg (by omega)]
    push_cast
    rw [add_sub_cancel_right]
  · obtain rfl : K = 2 ^ f.fracBits * 2 := by omega
    have hg : d * 2 ^ f.fracBits + 2 ^ f.fracBits * 2 = (d + 2) * 2 ^ f.fracBits := by ring
    rw [hg, magnitudeValue, Nat.mul_div_cancel _ hpos, Nat.mul_mod_left, if_neg (by omega)]
    push_cast
    rw [show (minExponent f + ((d : Int) + 2 - 1)) = minExponent f + d + 1 by ring,
      zpow_add_one₀ (by norm_num : (2 : ℚ) ≠ 0)]
    ring

theorem exists_split (f : FpFormat) (g : Nat) : ∃ d K, g = d * 2 ^ f.fracBits + K ∧
    (d = 0 ∨ 2 ^ f.fracBits ≤ K) ∧ K < 2 ^ (f.fracBits + 1) := by
  have hpos := Nat.two_pow_pos f.fracBits
  have hmod := Nat.mod_lt g hpos
  have hsplit := Nat.div_add_mod' g (2 ^ f.fracBits)
  rw [Nat.pow_succ]
  rcases hq : g / 2 ^ f.fracBits with _ | q
  · have := (Nat.div_eq_zero_iff_lt hpos).mp hq
    exact ⟨0, g, by omega, .inl rfl, by omega⟩
  · refine ⟨q, 2 ^ f.fracBits + g % 2 ^ f.fracBits, ?_, .inr (Nat.le_add_right _ _), by omega⟩
    rw [hq, Nat.succ_mul] at hsplit
    omega

theorem magnitudeValue_strictMono (f : FpFormat) : StrictMono (magnitudeValue f) := by
  refine strictMono_nat_of_lt_succ fun g => ?_
  obtain ⟨d, K, rfl, hd, hK⟩ := exists_split f g
  have hd' : d = 0 ∨ 2 ^ f.fracBits ≤ K + 1 := hd.imp_right fun h => h.trans (Nat.le_succ K)
  rw [Nat.add_assoc, magnitudeValue_of_split hd hK.le, magnitudeValue_of_split hd' hK]
  have hunit : (0 : ℚ) < 2 ^ (minExponent f + d) := by positivity
  push_cast
  linarith

@[simp] theorem magnitudeValue_zero (f : FpFormat) : magnitudeValue f 0 = 0 := by simp [magnitudeValue]

theorem magnitudeValue_nonneg (f : FpFormat) (g : Nat) : 0 ≤ magnitudeValue f g := by
  rw [← magnitudeValue_zero f]
  exact (magnitudeValue_strictMono f).monotone (Nat.zero_le g)

/-! ### The order of the values (R425) -/

/-- The value of a magnitude, with a sign. -/
def signedValue (f : FpFormat) (negative : Bool) (g : Nat) : ℚ :=
  if negative then -magnitudeValue f g else magnitudeValue f g

theorem patternValue_eq_signedValue (f : FpFormat) (a : Nat) :
    patternValue f a = signedValue f (signOf f a) (magnitudeOf f a) := by
  rw [patternValue, signedValue]
  split <;> ring

/-- A number and its key lie in the same order to every other. -/
theorem signedValue_lt_iff (m n : Bool) :
    signedValue f m g < signedValue f n h ↔ signedSignificand m g < signedSignificand n h := by
  have hmono := (magnitudeValue_strictMono f).lt_iff_lt (a := g) (b := h)
  have hmono' := (magnitudeValue_strictMono f).lt_iff_lt (a := h) (b := g)
  have hg := magnitudeValue_nonneg f g
  have hh := magnitudeValue_nonneg f h
  have hg0 := (magnitudeValue_strictMono f).lt_iff_lt (a := 0) (b := g)
  have hh0 := (magnitudeValue_strictMono f).lt_iff_lt (a := 0) (b := h)
  rw [magnitudeValue_zero] at hg0 hh0
  cases m <;> cases n <;> simp only [signedValue, signedSignificand, if_true, if_false, Bool.false_eq_true]
  · rw [hmono, Int.ofNat_lt]
  · constructor <;> intro <;> exfalso <;> [linarith; omega]
  · by_cases hzero : g = 0 ∧ h = 0
    · simp [hzero.1, hzero.2]
    · have hpos : 0 < g ∨ 0 < h := by omega
      refine iff_of_true ?_ (by omega)
      obtain hpos | hpos := hpos
      · linarith [hg0.mpr hpos]
      · linarith [hh0.mpr hpos]
  · rw [neg_lt_neg_iff, hmono']
    omega

theorem signedValue_eq_iff (m n : Bool) :
    signedValue f m g = signedValue f n h ↔ signedSignificand m g = signedSignificand n h := by
  rw [eq_iff_le_not_lt, eq_iff_le_not_lt, ← not_lt, ← not_lt, signedValue_lt_iff, signedValue_lt_iff]

theorem infinityMagnitude_pos (hf : f = binary32 ∨ f = binary64) : 0 < infinityMagnitude f := by
  obtain rfl | rfl := hf <;> decide

end Sys2Proof.Machine

namespace Sys2Proof.Proofs

open Sys2Proof.Machine

/-- Settles O60: the key orders finite patterns as their values are, and an infinity's key is beyond every finite one.
-/
theorem comparisonIsNumeric : Obligations.ComparisonIsNumeric := by
  unfold Obligations.ComparisonIsNumeric
  intro f a b hf
  dsimp only
  have hpos := infinityMagnitude_pos hf
  have hordered : isNan f a = false → isNan f b = false → compareValues f a b =
      ⟨decide (orderKey f a < orderKey f b), decide (orderKey f a = orderKey f b), false⟩ := fun ha hb => by
    simp [compareValues, ha, hb]
  refine ⟨?unordered, ?alone, fun ha hb => ?finite, fun ha hb => ?finiteInfinity, fun ha hb => ?infinityFinite,
    fun ha hb => ?infinities⟩
  case unordered =>
    unfold compareValues
    split <;> simp_all
  case alone =>
    unfold compareValues
    split <;> simp
  case finite =>
    rw [hordered (isNan_of_finite ha) (isNan_of_finite hb), decide_eq_true_iff, decide_eq_true_iff,
      patternValue_eq_signedValue, patternValue_eq_signedValue, signedValue_lt_iff, signedValue_eq_iff]
    exact ⟨Iff.rfl, Iff.rfl⟩
  case finiteInfinity =>
    rw [hordered (isNan_of_finite ha) (isNan_of_infinity hb)]
    unfold IsFinitePattern at ha
    unfold IsInfinityPattern at hb
    cases hsa : signOf f a <;> cases hsb : signOf f b <;> simp [orderKey, signedSignificand, hsa, hsb] <;> omega
  case infinityFinite =>
    rw [hordered (isNan_of_infinity ha) (isNan_of_finite hb)]
    unfold IsFinitePattern at hb
    unfold IsInfinityPattern at ha
    cases hsa : signOf f a <;> cases hsb : signOf f b <;> simp [orderKey, signedSignificand, hsa, hsb] <;> omega
  case infinities =>
    rw [hordered (isNan_of_infinity ha) (isNan_of_infinity hb)]
    unfold IsInfinityPattern at ha hb
    cases hsa : signOf f a <;> cases hsb : signOf f b <;> simp [orderKey, signedSignificand, hsa, hsb] <;> omega

end Sys2Proof.Proofs
end

section
/-! SUPPORT. Rounding a fraction (R391, R401): what `roundQuotient` chooses, and the conversions to integers. -/

namespace Sys2Proof.Machine

variable {f : FpFormat} {rm : RoundingMode} {negative : Bool} {x low high : ℚ} {g p : Nat}

/-! ### The choice between two neighbours -/

/-- Of two neighbours `low` and `high` around `x`, numbered `g` and `g + 1`, rounding chooses number `p`: what
`ChosenMagnitude` says of the magnitudes of a format. -/
def ChosenBetween (rm : RoundingMode) (negative : Bool) (x low high : ℚ) (g p : Nat) : Prop :=
  if x = low then p = g
  else match rm with
    | .nearestEven =>
      (2 * x < low + high → p = g) ∧ (low + high < 2 * x → p = g + 1) ∧
        (2 * x = low + high → (p = g ∨ p = g + 1) ∧ p % 2 = 0)
    | .towardZero => p = g
    | .up => p = if negative then g else g + 1
    | .down => p = if negative then g + 1 else g

theorem chosenMagnitude_iff : ChosenMagnitude f rm negative x g p ↔
    ChosenBetween rm negative x (magnitudeValue f g) (magnitudeValue f (g + 1)) g p := Iff.rfl

/-- Numbering from an even number on, in units of `u`, chooses the same neighbour. -/
theorem ChosenBetween.scale {u : ℚ} (hu : 0 < u) {c : Nat} (hc : c % 2 = 0)
    (h : ChosenBetween rm negative x low high g p) :
    ChosenBetween rm negative (x * u) (low * u) (high * u) (c + g) (c + p) := by
  have hsum : low * u + high * u = (low + high) * u := by ring
  have htwice : 2 * (x * u) = 2 * x * u := by ring
  unfold ChosenBetween at h ⊢
  by_cases hexact : x = low
  · rw [if_pos hexact] at h
    rw [if_pos (by rw [hexact]), h]
  · rw [if_neg hexact] at h
    rw [if_neg fun heq => hexact (mul_right_cancel₀ hu.ne' heq), hsum, htwice,
      mul_lt_mul_iff_left₀ hu, mul_lt_mul_iff_left₀ hu, mul_left_inj' hu.ne']
    cases rm with
    | nearestEven =>
      obtain ⟨hbelow, habove, htie⟩ := h
      refine ⟨fun hx => by rw [hbelow hx], fun hx => by rw [habove hx, Nat.add_assoc], fun hx => ?_⟩
      obtain ⟨hchoice, heven⟩ := htie hx
      omega
    | towardZero => exact congrArg (c + ·) h
    | up => cases negative <;> exact congrArg (c + ·) h
    | down => cases negative <;> exact congrArg (c + ·) h

/-! ### `roundQuotient` -/

theorem div_le_ratio (num den : Nat) : ((num / den : Nat) : ℚ) ≤ (num : ℚ) / den :=
  Nat.cast_div_le

theorem ratio_lt_div_add_one (num : Nat) {den : Nat} (hden : 0 < den) :
    (num : ℚ) / den < ((num / den : Nat) : ℚ) + 1 := by
  rw [div_lt_iff₀ (by exact_mod_cast hden)]
  exact_mod_cast Nat.lt_mul_of_div_lt (Nat.lt_succ_self _) hden

theorem roundQuotient_nearestEven (negative : Bool) (num den : Nat) : roundQuotient .nearestEven negative num den =
    if den < 2 * (num % den) ∨ (den = 2 * (num % den) ∧ num / den % 2 = 1) then num / den + 1 else num / den := by
  simp [roundQuotient]

theorem roundQuotient_chosen (rm : RoundingMode) (negative : Bool) (num : Nat) {den : Nat} (hden : 0 < den) :
    ChosenBetween rm negative ((num : ℚ) / den) (num / den : Nat) ((num / den : Nat) + 1) (num / den)
      (roundQuotient rm negative num den) := by
  have hdenQ : (0 : ℚ) < den := by exact_mod_cast hden
  have hratio : (num : ℚ) / den = (num / den : Nat) + (num % den : Nat) / den := by
    rw [eq_comm, ← eq_sub_iff_add_eq', ← sub_eq_zero]
    field_simp
    have hsplit : ((den * (num / den) + num % den : Nat) : ℚ) = num := by rw [Nat.div_add_mod]
    push_cast at hsplit
    linarith
  have hexact : (num : ℚ) / den = (num / den : Nat) ↔ num % den = 0 := by
    rw [hratio, add_eq_left, div_eq_zero_iff, or_iff_left hdenQ.ne', Nat.cast_eq_zero]
  have htwice : 2 * ((num : ℚ) / den) = ((num / den : Nat) + ((num / den : Nat) + 1)) +
      (2 * (num % den : Nat) - den) / den := by
    rw [hratio]
    field_simp
    ring
  have hbelow : 2 * ((num : ℚ) / den) < (num / den : Nat) + ((num / den : Nat) + 1) ↔ 2 * (num % den) < den := by
    rw [htwice, add_lt_iff_neg_left, div_lt_iff₀ hdenQ, zero_mul, sub_neg]
    exact_mod_cast Iff.rfl
  have habove : (num / den : Nat) + ((num / den : Nat) + 1) < 2 * ((num : ℚ) / den) ↔ den < 2 * (num % den) := by
    rw [htwice, lt_add_iff_pos_right, div_pos_iff_of_pos_right hdenQ, sub_pos]
    exact_mod_cast Iff.rfl
  have htie : 2 * ((num : ℚ) / den) = (num / den : Nat) + ((num / den : Nat) + 1) ↔ den = 2 * (num % den) := by
    rw [eq_iff_le_not_lt, eq_iff_le_not_lt, ← not_lt, ← not_lt, hbelow, habove]
    omega
  unfold ChosenBetween
  simp only [hexact, hbelow, habove, htie]
  by_cases hrest : num % den = 0
  · rw [if_pos hrest]
    cases rm with
    | nearestEven =>
      rw [roundQuotient_nearestEven, if_neg (by omega)]
    | towardZero => rfl
    | up => simp [roundQuotient, hrest]
    | down => simp [roundQuotient, hrest]
  · rw [if_neg hrest]
    cases rm with
    | nearestEven =>
      by_cases haway : den < 2 * (num % den) ∨ (den = 2 * (num % den) ∧ num / den % 2 = 1)
      · rw [roundQuotient_nearestEven, if_pos haway]
        exact ⟨fun _ => by omega, fun _ => rfl, fun _ => ⟨.inr rfl, by omega⟩⟩
      · rw [roundQuotient_nearestEven, if_neg haway]
        exact ⟨fun _ => rfl, fun _ => by omega, fun _ => ⟨.inl rfl, by omega⟩⟩
    | towardZero => rfl
    | up => cases negative <;> simp [roundQuotient, hrest]
    | down => cases negative <;> simp [roundQuotient, hrest]

/-! ### Fractions of powers of two -/

theorem scaled_den_pos (m : Nat) (e : Int) : 0 < (scaled m e).2 := by
  unfold scaled
  split
  · exact Nat.one_pos
  · exact Nat.two_pow_pos _

theorem scaled_value (m : Nat) (e : Int) : ((scaled m e).1 : ℚ) / (scaled m e).2 = m * 2 ^ e := by
  unfold scaled
  split
  · obtain ⟨k, rfl⟩ := Int.eq_ofNat_of_zero_le ‹_›
    simp
  · obtain ⟨k, hk⟩ := Int.eq_ofNat_of_zero_le (show 0 ≤ -e by omega)
    obtain rfl : e = -(k : Int) := by omega
    simp [zpow_neg, div_eq_mul_inv]

/-! ### Rounding to an integer (R401) -/

/-- A magnitude with a sign. -/
def withSignQ (negative : Bool) (x : ℚ) : ℚ := if negative then -x else x

theorem isRoundedInteger_of_chosen {k q : Nat} (hlow : (k : ℚ) ≤ x) (hhigh : x < k + 1)
    (h : ChosenBetween rm negative x k (k + 1) k q) :
    IsRoundedInteger rm (withSignQ negative x) (signedSignificand negative q) := by
  have hnonneg : 0 ≤ x := (Nat.cast_nonneg k).trans hlow
  have hfloor : ⌊x⌋ = k := Int.floor_eq_iff.mpr ⟨by exact_mod_cast hlow, by exact_mod_cast hhigh⟩
  by_cases hexact : x = k
  · obtain rfl : q = k := by simpa [ChosenBetween, hexact] using h
    have hceil : ⌈x⌉ = q := by rw [hexact, Int.ceil_natCast]
    cases rm <;> cases negative <;>
      simp [IsRoundedInteger, withSignQ, signedSignificand, Int.ceil_neg, Int.floor_neg, hexact]
  · have hceil : ⌈x⌉ = (k : Int) + 1 := by
      refine Int.ceil_eq_iff.mpr ⟨?_, ?_⟩
      · push_cast
        rw [add_sub_cancel_right]
        exact lt_of_le_of_ne hlow (Ne.symm hexact)
      · exact_mod_cast hhigh.le
    have hpos : 0 < x := lt_of_le_of_ne hnonneg fun h0 => hexact (by
      have : (k : ℚ) = 0 := le_antisymm (h0 ▸ hlow) (Nat.cast_nonneg k)
      rw [this, ← h0])
    simp only [ChosenBetween, hexact, if_false] at h
    cases rm with
    | nearestEven =>
      have hsign : |withSignQ negative x - (signedSignificand negative q : Int)| = |x - q| := by
        cases negative
        · simp [withSignQ, signedSignificand]
        · simp only [withSignQ, signedSignificand, if_true]
          rw [← abs_neg]
          push_cast
          congr 1
          ring
      have hparity : signedSignificand negative q % 2 = 0 ↔ q % 2 = 0 := by
        cases negative <;> simp only [signedSignificand, if_true, if_false, Bool.false_eq_true] <;> omega
      obtain ⟨hbelow, habove, htie⟩ := h
      rw [IsRoundedInteger, hsign, hparity]
      obtain hlt | heq | hgt := lt_trichotomy (2 * x) (k + (k + 1))
      · rw [hbelow hlt, abs_of_nonneg (by linarith)]
        exact ⟨by linarith, fun h => by linarith⟩
      · obtain ⟨rfl | rfl, heven⟩ := htie heq
        · rw [abs_of_nonneg (by linarith)]
          exact ⟨by linarith, fun _ => heven⟩
        · push_cast
          rw [abs_of_nonpos (by linarith)]
          exact ⟨by linarith, fun _ => heven⟩
      · rw [habove hgt]
        push_cast
        rw [abs_of_nonpos (by linarith)]
        exact ⟨by linarith, fun h => by linarith⟩
    | towardZero =>
      subst h
      cases negative <;>
        simp [IsRoundedInteger, withSignQ, signedSignificand, hnonneg, hpos, Int.ceil_neg, hfloor]
    | up => cases negative <;> simp [IsRoundedInteger, withSignQ, signedSignificand, Int.ceil_neg, hfloor, hceil, h]
    | down => cases negative <;> simp [IsRoundedInteger, withSignQ, signedSignificand, Int.floor_neg, hfloor, hceil, h]

theorem patternValue_eq_withSignQ (f : FpFormat) (a : Nat) :
    patternValue f a = withSignQ (signOf f a) (magnitudeValue f (magnitudeOf f a)) :=
  patternValue_eq_signedValue f a

/-- A finite number converts to its rounded integer, when that fits. -/
theorem toIntExact_of_finite {a : Nat} (rm : RoundingMode) (w : Nat) (h : IsFinitePattern f a) :
    ∃ r : Int, IsRoundedInteger rm (patternValue f a) r ∧
      toIntExact f rm w a = if -2 ^ (w - 1) ≤ r ∧ r ≤ 2 ^ (w - 1) - 1 then some r else none := by
  have hden := scaled_den_pos (significandOf f (magnitudeOf f a)) (exponentOf f (magnitudeOf f a))
  have hchosen := roundQuotient_chosen rm (signOf f a)
    (scaled (significandOf f (magnitudeOf f a)) (exponentOf f (magnitudeOf f a))).1 hden
  have hround := isRoundedInteger_of_chosen (div_le_ratio _ _) (ratio_lt_div_add_one _ hden) hchosen
  rw [scaled_value, ← magnitudeValue_eq, ← patternValue_eq_withSignQ] at hround
  refine ⟨_, hround, ?_⟩
  rw [toIntExact, unpack_of_finite h]
  dsimp only
  split
  · rw [if_neg]
    rw [← outOfRange_eq_false_iff]
    simp [*]
  · rw [if_pos ((outOfRange_eq_false_iff _ _).mp (Bool.eq_false_of_not_eq_true ‹_›))]

theorem toIntExact_of_not_finite {a : Nat} (rm : RoundingMode) (w : Nat) (h : ¬ IsFinitePattern f a) :
    toIntExact f rm w a = none := by
  obtain hfinite | hinf | hnan := pattern_trichotomy f a
  · exact absurd hfinite h
  · rw [toIntExact, unpack_of_infinity hinf]
  · rw [toIntExact, unpack_of_nan hnan]

/-- What a conversion to integers gives (R401). -/
def IsIntegerOf {w : Nat} (f : FpFormat) (bits : Nat) (rm : RoundingMode) (invalid v : BitVec w) : Prop :=
  (¬ IsFinitePattern f bits → v = invalid) ∧
    (IsFinitePattern f bits → ∃ r : Int, IsRoundedInteger rm (patternValue f bits) r ∧
      v = if -2 ^ (w - 1) ≤ r ∧ r ≤ 2 ^ (w - 1) - 1 then BitVec.ofInt w r else invalid)

theorem isIntegerOf_elim {w : Nat} (f : FpFormat) (bits : Nat) (rm : RoundingMode) (invalid : BitVec w) :
    IsIntegerOf f bits rm invalid ((toIntExact f rm w bits).elim invalid (BitVec.ofInt w)) := by
  refine ⟨fun h => by rw [toIntExact_of_not_finite rm w h, Option.elim_none], fun h => ?_⟩
  obtain ⟨r, hround, hexact⟩ := toIntExact_of_finite rm w h
  refine ⟨r, hround, ?_⟩
  rw [hexact]
  split <;> rfl

theorem isIntegerOf_toInt32 (cfg : Config) (f : FpFormat) (bits : Nat) (rm : RoundingMode) :
    IsIntegerOf f bits rm cfg.invalidInt32 (toInt32 cfg f rm bits) := by
  have h := isIntegerOf_elim f bits rm cfg.invalidInt32
  unfold toInt32
  cases hexact : toIntExact f rm 32 bits <;> rw [hexact] at h <;> exact h

theorem isIntegerOf_toInt64 (cfg : Config) (f : FpFormat) (bits : Nat) (rm : RoundingMode) :
    IsIntegerOf f bits rm cfg.invalidInt64 (toInt64 cfg f rm bits) := by
  have h := isIntegerOf_elim f bits rm cfg.invalidInt64
  unfold toInt64
  cases hexact : toIntExact f rm 64 bits <;> rw [hexact] at h <;> exact h

end Sys2Proof.Machine

namespace Sys2Proof.Proofs

open Sys2Proof.Machine

/-- Settles O57: the exact value is a fraction, and `roundQuotient` rounds it. -/
theorem conversionsToIntegers : Obligations.ConversionsToIntegers := by
  unfold Obligations.ConversionsToIntegers
  intro s fd fs hcp1
  have word : ∀ {i : Instr} {f : FpFormat} {bits : Nat} {rm : RoundingMode},
      exec i s = put32 fd (toInt32 s.cfg f rm bits) s →
      WritesFpr32 i s fd (IsIntegerOf f bits rm s.cfg.invalidInt32) := fun h =>
    put32_rule hcp1 h (isIntegerOf_toInt32 _ _ _ _)
  have long : ∀ {i : Instr} {f : FpFormat} {bits : Nat} {rm : RoundingMode},
      exec i s = put64 fd (toInt64 s.cfg f rm bits) s →
      WritesFpr64 i s fd (IsIntegerOf f bits rm s.cfg.invalidInt64) := fun h =>
    put64_rule hcp1 h (isIntegerOf_toInt64 _ _ _ _)
  exact ⟨long rfl, long rfl, long rfl, long rfl, word rfl, word rfl, word rfl, word rfl, long rfl, long rfl, long rfl,
    long rfl, word rfl, word rfl, word rfl, word rfl, word rfl, word rfl, long rfl, long rfl⟩

end Sys2Proof.Proofs
end

section
/-! SUPPORT. The results of floating-point operations that are no rounded number (R391, R392): NaNs, zeros and
infinities, by the classes of the operands. -/

namespace Sys2Proof.Machine

variable {f : FpFormat} {rm : RoundingMode} {a b : Nat} {m n : Bool} {e e' : Int} {p q : Nat}

theorem roundTo_zero (f : FpFormat) (rm : RoundingMode) (n : Bool) (den : Nat) (e : Int) :
    roundTo f rm n 0 den e = withSign f n 0 := if_pos rfl

/-! ### Exact sums -/

/-- The exact sum of two finite values, in units of the smaller exponent. -/
def exactSum (n : Bool) (p : Nat) (e : Int) (n' : Bool) (p' : Nat) (e' : Int) : Int :=
  signedSignificand n p * 2 ^ (e - min e e').toNat + signedSignificand n' p' * 2 ^ (e' - min e e').toNat

theorem exactSum_value (n : Bool) (p : Nat) (e : Int) (n' : Bool) (p' : Nat) (e' : Int) :
    (signedSignificand n p : ℚ) * 2 ^ e + signedSignificand n' p' * 2 ^ e' =
      exactSum n p e n' p' e' * 2 ^ min e e' := by
  have hpow : ∀ {k : Int}, min e e' ≤ k → (2 : ℚ) ^ k = 2 ^ (k - min e e').toNat * 2 ^ min e e' := fun {k} hk => by
    rw [← zpow_natCast, ← zpow_add₀ two_ne_zero, Int.toNat_of_nonneg (by omega), sub_add_cancel]
  rw [exactSum, hpow (min_le_left e e'), hpow (min_le_right e e')]
  push_cast
  ring

theorem addValues_finite (f : FpFormat) (rm : RoundingMode) (n n' : Bool) (p p' : Nat) (e e' : Int) :
    addValues f rm (.finite n p e) (.finite n' p' e') =
      if exactSum n p e n' p' e' = 0 then some (zeroPattern f (if n = n' then n else decide (rm = .down)))
      else some (roundTo f rm (decide (exactSum n p e n' p' e' < 0)) (exactSum n p e n' p' e').natAbs 1 (min e e')) :=
  rfl

/-- Two finite numbers, the second with the sign `n`, whose exact sum is zero. -/
theorem exactSum_eq_zero_iff (f : FpFormat) (n : Bool) (a b : Nat) :
    exactSum (signOf f a) (significandOf f (magnitudeOf f a)) (exponentOf f (magnitudeOf f a)) n
      (significandOf f (magnitudeOf f b)) (exponentOf f (magnitudeOf f b)) = 0 ↔
    patternValue f a + withSignQ n (magnitudeValue f (magnitudeOf f b)) = 0 := by
  have hpow : (2 : ℚ) ^ min (exponentOf f (magnitudeOf f a)) (exponentOf f (magnitudeOf f b)) ≠ 0 := by positivity
  have hb : withSignQ n (magnitudeValue f (magnitudeOf f b)) =
      signedSignificand n (significandOf f (magnitudeOf f b)) * 2 ^ exponentOf f (magnitudeOf f b) := by
    rw [magnitudeValue_eq]
    cases n <;> simp [withSignQ, signedSignificand]
  rw [patternValue_eq, hb, exactSum_value, mul_eq_zero, or_iff_left hpow, Int.cast_eq_zero]

/-! ### A pattern with another sign: subtraction adds it -/

/-- The value of a pattern with this sign in place of its own. -/
def unpackWithSign (f : FpFormat) (n : Bool) (b : Nat) : FpValue :=
  match unpack f b with
  | .nan => .nan
  | .infinity _ => .infinity n
  | .finite _ p e => .finite n p e

theorem unpackWithSign_of_finite (n : Bool) (h : IsFinitePattern f b) : unpackWithSign f n b =
    .finite n (significandOf f (magnitudeOf f b)) (exponentOf f (magnitudeOf f b)) := by
  rw [unpackWithSign, unpack_of_finite h]

theorem unpackWithSign_of_infinity (n : Bool) (h : IsInfinityPattern f b) : unpackWithSign f n b = .infinity n := by
  rw [unpackWithSign, unpack_of_infinity h]

theorem unpackWithSign_of_nan (n : Bool) (h : isNan f b = true) : unpackWithSign f n b = .nan := by
  rw [unpackWithSign, unpack_of_nan h]

theorem unpack_eq_unpackWithSign (f : FpFormat) (b : Nat) : unpack f b = unpackWithSign f (signOf f b) b := by
  obtain h | h | h := pattern_trichotomy f b
  · rw [unpackWithSign_of_finite _ h, unpack_of_finite h]
  · rw [unpackWithSign_of_infinity _ h, unpack_of_infinity h]
  · rw [unpackWithSign_of_nan _ h, unpack_of_nan h]

theorem negateValue_unpack (f : FpFormat) (b : Nat) :
    negateValue (unpack f b) = unpackWithSign f (!signOf f b) b := by
  obtain h | h | h := pattern_trichotomy f b
  · rw [unpackWithSign_of_finite _ h, unpack_of_finite h, negateValue]
  · rw [unpackWithSign_of_infinity _ h, unpack_of_infinity h, negateValue]
  · rw [unpackWithSign_of_nan _ h, unpack_of_nan h, negateValue]

theorem patternValue_neg (f : FpFormat) (b : Nat) :
    -patternValue f b = withSignQ (!signOf f b) (magnitudeValue f (magnitudeOf f b)) := by
  rw [patternValue_eq_withSignQ]
  cases signOf f b <;> simp [withSignQ]

/-! ### Which class an operand is in -/

theorem not_finite_of_infinity (h : IsInfinityPattern f a) : ¬ IsFinitePattern f a :=
  fun hfin => not_infinity_of_finite hfin h

theorem not_finite_of_nan (h : isNan f a = true) : ¬ IsFinitePattern f a :=
  fun hfin => by simp [isNan_of_finite hfin] at h

theorem not_infinity_of_nan (h : isNan f a = true) : ¬ IsInfinityPattern f a :=
  fun hinf => by simp [isNan_of_infinity hinf] at h

theorem finite_of_zero (hf : f = binary32 ∨ f = binary64) (h : magnitudeOf f a = 0) : IsFinitePattern f a :=
  h.trans_lt (infinityMagnitude_pos hf)

theorem not_zero_of_infinity (hf : f = binary32 ∨ f = binary64) (h : IsInfinityPattern f a) : magnitudeOf f a ≠ 0 :=
  fun hzero => not_finite_of_infinity h (finite_of_zero hf hzero)

theorem not_zero_of_nan (hf : f = binary32 ∨ f = binary64) (h : isNan f a = true) : magnitudeOf f a ≠ 0 :=
  fun hzero => not_finite_of_nan h (finite_of_zero hf hzero)

/-! ### Sums -/

theorem addValues_eq_none_iff (f : FpFormat) (rm : RoundingMode) (n : Bool) (a b : Nat) :
    addValues f rm (unpack f a) (unpackWithSign f n b) = none ↔
      (isNan f a = true ∨ isNan f b = true) ∨ (IsInfinityPattern f a ∧ IsInfinityPattern f b ∧ signOf f a ≠ n) := by
  obtain ha | ha | ha := pattern_trichotomy f a
  · have hnone : ∀ y, y ≠ .nan → addValues f rm (unpack f a) y ≠ none := fun y hy => by
      rw [unpack_of_finite ha]
      cases y with
      | nan => exact absurd rfl hy
      | infinity _ => exact Option.some_ne_none _
      | finite _ _ _ =>
        rw [addValues_finite]
        split <;> exact Option.some_ne_none _
    simp only [isNan_of_finite ha, not_infinity_of_finite ha, Bool.false_eq_true, false_or, false_and, or_false]
    obtain hb | hb | hb := pattern_trichotomy f b
    · simp [isNan_of_finite hb, hnone, unpackWithSign_of_finite _ hb]
    · simp [isNan_of_infinity hb, hnone, unpackWithSign_of_infinity _ hb]
    · simp [hb, unpackWithSign_of_nan _ hb, unpack_of_finite ha, addValues]
  · rw [unpack_of_infinity ha]
    simp only [isNan_of_infinity ha, show IsInfinityPattern f a from ha, Bool.false_eq_true, false_or, true_and]
    obtain hb | hb | hb := pattern_trichotomy f b
    · simp [unpackWithSign_of_finite _ hb, isNan_of_finite hb, not_infinity_of_finite hb, addValues]
    · simp [unpackWithSign_of_infinity _ hb, isNan_of_infinity hb, show IsInfinityPattern f b from hb, addValues]
    · simp [unpackWithSign_of_nan _ hb, hb, addValues]
  · simp [unpack_of_nan ha, ha, addValues]

theorem addValues_of_sum_zero (rm : RoundingMode) (n : Bool) (ha : IsFinitePattern f a) (hb : IsFinitePattern f b)
    (hsum : patternValue f a + withSignQ n (magnitudeValue f (magnitudeOf f b)) = 0) :
    addValues f rm (unpack f a) (unpackWithSign f n b) =
      some (withSign f (if signOf f a = n then signOf f a else decide (rm = .down)) 0) := by
  rw [unpack_of_finite ha, unpackWithSign_of_finite n hb, addValues_finite,
    if_pos ((exactSum_eq_zero_iff f n a b).mpr hsum)]
  rfl

theorem addValues_infinity_left (rm : RoundingMode) (n : Bool) (ha : IsInfinityPattern f a)
    (hb : IsFinitePattern f b ∨ (IsInfinityPattern f b ∧ signOf f a = n)) :
    addValues f rm (unpack f a) (unpackWithSign f n b) = some (withSign f (signOf f a) (infinityMagnitude f)) := by
  rw [unpack_of_infinity ha]
  obtain hb | ⟨hb, hsign⟩ := hb
  · rw [unpackWithSign_of_finite n hb]
    rfl
  · rw [unpackWithSign_of_infinity n hb]
    exact if_pos hsign

theorem addValues_infinity_right (rm : RoundingMode) (n : Bool) (ha : IsFinitePattern f a)
    (hb : IsInfinityPattern f b) :
    addValues f rm (unpack f a) (unpackWithSign f n b) = some (withSign f n (infinityMagnitude f)) := by
  rw [unpack_of_finite ha, unpackWithSign_of_infinity n hb]
  rfl

/-! ### Products -/

theorem mulValues_eq_none_iff (hf : f = binary32 ∨ f = binary64) (rm : RoundingMode) (a b : Nat) :
    mulValues f rm (unpack f a) (unpack f b) = none ↔ (isNan f a = true ∨ isNan f b = true) ∨
      (IsInfinityPattern f a ∧ magnitudeOf f b = 0) ∨ (magnitudeOf f a = 0 ∧ IsInfinityPattern f b) := by
  obtain ha | ha | ha := pattern_trichotomy f a
  · obtain hb | hb | hb := pattern_trichotomy f b
    · simp [unpack_of_finite ha, unpack_of_finite hb, isNan_of_finite ha, isNan_of_finite hb,
        not_infinity_of_finite ha, not_infinity_of_finite hb, mulValues]
    · simp [unpack_of_finite ha, unpack_of_infinity hb, isNan_of_finite ha, isNan_of_infinity hb,
        not_infinity_of_finite ha, show IsInfinityPattern f b from hb, mulValues, significandOf_eq_zero_iff]
    · simp [unpack_of_finite ha, unpack_of_nan hb, hb, mulValues]
  · obtain hb | hb | hb := pattern_trichotomy f b
    · simp [unpack_of_infinity ha, unpack_of_finite hb, isNan_of_infinity ha, isNan_of_finite hb,
        not_infinity_of_finite hb, show IsInfinityPattern f a from ha, mulValues, significandOf_eq_zero_iff]
    · simp [unpack_of_infinity ha, unpack_of_infinity hb, isNan_of_infinity ha, isNan_of_infinity hb,
        not_zero_of_infinity hf ha, not_zero_of_infinity hf hb, mulValues]
    · simp [unpack_of_infinity ha, unpack_of_nan hb, hb, mulValues]
  · simp [unpack_of_nan ha, ha, mulValues]

theorem mulValues_of_zero (rm : RoundingMode) (ha : IsFinitePattern f a) (hb : IsFinitePattern f b)
    (hzero : magnitudeOf f a = 0 ∨ magnitudeOf f b = 0) :
    mulValues f rm (unpack f a) (unpack f b) = some (withSign f (signOf f a ^^ signOf f b) 0) := by
  have hprod : significandOf f (magnitudeOf f a) * significandOf f (magnitudeOf f b) = 0 :=
    Nat.mul_eq_zero.mpr (hzero.imp significandOf_eq_zero_iff.mpr significandOf_eq_zero_iff.mpr)
  rw [unpack_of_finite ha, unpack_of_finite hb, mulValues, hprod, roundTo_zero]

theorem mulValues_infinity_left (rm : RoundingMode) (ha : IsInfinityPattern f a)
    (hb : IsInfinityPattern f b ∨ (IsFinitePattern f b ∧ magnitudeOf f b ≠ 0)) :
    mulValues f rm (unpack f a) (unpack f b) =
      some (withSign f (signOf f a ^^ signOf f b) (infinityMagnitude f)) := by
  rw [unpack_of_infinity ha]
  obtain hb | ⟨hb, hzero⟩ := hb
  · rw [unpack_of_infinity hb]
    rfl
  · rw [unpack_of_finite hb]
    exact if_neg (mt significandOf_eq_zero_iff.mp hzero)

theorem mulValues_infinity_right (rm : RoundingMode) (ha : IsFinitePattern f a) (hzero : magnitudeOf f a ≠ 0)
    (hb : IsInfinityPattern f b) : mulValues f rm (unpack f a) (unpack f b) =
      some (withSign f (signOf f a ^^ signOf f b) (infinityMagnitude f)) := by
  rw [unpack_of_finite ha, unpack_of_infinity hb, Bool.xor_comm]
  exact if_neg (mt significandOf_eq_zero_iff.mp hzero)

/-! ### Quotients -/

theorem divValues_eq_none_iff (hf : f = binary32 ∨ f = binary64) (rm : RoundingMode) (a b : Nat) :
    divValues f rm (unpack f a) (unpack f b) = none ↔ (isNan f a = true ∨ isNan f b = true) ∨
      (IsInfinityPattern f a ∧ IsInfinityPattern f b) ∨ (magnitudeOf f a = 0 ∧ magnitudeOf f b = 0) := by
  obtain ha | ha | ha := pattern_trichotomy f a
  · obtain hb | hb | hb := pattern_trichotomy f b
    · simp only [unpack_of_finite ha, unpack_of_finite hb, isNan_of_finite ha, isNan_of_finite hb,
        not_infinity_of_finite ha, divValues, significandOf_eq_zero_iff]
      by_cases hzero : magnitudeOf f b = 0 <;> simp [hzero]
    · simp [unpack_of_finite ha, unpack_of_infinity hb, isNan_of_finite ha, isNan_of_infinity hb,
        not_infinity_of_finite ha, not_zero_of_infinity hf hb, divValues]
    · simp [unpack_of_finite ha, unpack_of_nan hb, hb, divValues]
  · obtain hb | hb | hb := pattern_trichotomy f b
    · simp [unpack_of_infinity ha, unpack_of_finite hb, isNan_of_infinity ha, isNan_of_finite hb,
        not_infinity_of_finite hb, not_zero_of_infinity hf ha, divValues]
    · simp [unpack_of_infinity ha, unpack_of_infinity hb, show IsInfinityPattern f a from ha,
        show IsInfinityPattern f b from hb, divValues]
    · simp [unpack_of_infinity ha, unpack_of_nan hb, hb, divValues]
  · simp [unpack_of_nan ha, ha, divValues]

theorem divValues_of_zero (rm : RoundingMode) (ha : IsFinitePattern f a) (hb : IsFinitePattern f b)
    (hzero : magnitudeOf f a = 0) (hb0 : magnitudeOf f b ≠ 0) :
    divValues f rm (unpack f a) (unpack f b) = some (withSign f (signOf f a ^^ signOf f b) 0) := by
  rw [unpack_of_finite ha, unpack_of_finite hb, divValues, if_neg (mt significandOf_eq_zero_iff.mp hb0),
    significandOf_eq_zero_iff.mpr hzero, roundTo_zero]

theorem divValues_by_infinity (rm : RoundingMode) (ha : IsFinitePattern f a) (hb : IsInfinityPattern f b) :
    divValues f rm (unpack f a) (unpack f b) = some (withSign f (signOf f a ^^ signOf f b) 0) := by
  rw [unpack_of_finite ha, unpack_of_infinity hb]
  rfl

theorem divValues_of_infinity (rm : RoundingMode) (ha : IsInfinityPattern f a) (hb : IsFinitePattern f b) :
    divValues f rm (unpack f a) (unpack f b) =
      some (withSign f (signOf f a ^^ signOf f b) (infinityMagnitude f)) := by
  rw [unpack_of_infinity ha, unpack_of_finite hb]
  rfl

theorem divValues_by_zero (rm : RoundingMode) (ha : IsFinitePattern f a) (hb : IsFinitePattern f b)
    (ha0 : magnitudeOf f a ≠ 0) (hzero : magnitudeOf f b = 0) :
    divValues f rm (unpack f a) (unpack f b) =
      some (withSign f (signOf f a ^^ signOf f b) (infinityMagnitude f)) := by
  rw [unpack_of_finite ha, unpack_of_finite hb, divValues, if_pos (significandOf_eq_zero_iff.mpr hzero),
    if_neg (mt significandOf_eq_zero_iff.mp ha0), infinityPattern]

/-! ### Square roots -/

theorem sqrtValue_eq_none_iff (hf : f = binary32 ∨ f = binary64) (rm : RoundingMode) (a : Nat) :
    sqrtValue f rm (unpack f a) = none ↔ isNan f a = true ∨ (signOf f a = true ∧ ¬ magnitudeOf f a = 0) := by
  obtain ha | ha | ha := pattern_trichotomy f a
  · simp only [unpack_of_finite ha, isNan_of_finite ha, sqrtValue, significandOf_eq_zero_iff]
    by_cases hzero : magnitudeOf f a = 0 <;> simp [hzero]
  · simp [unpack_of_infinity ha, isNan_of_infinity ha, not_zero_of_infinity hf ha, sqrtValue]
  · simp [unpack_of_nan ha, ha, sqrtValue]

theorem sqrtValue_of_zero (rm : RoundingMode) (ha : IsFinitePattern f a) (hzero : magnitudeOf f a = 0) :
    sqrtValue f rm (unpack f a) = some (withSign f (signOf f a) 0) := by
  rw [unpack_of_finite ha]
  exact if_pos (significandOf_eq_zero_iff.mpr hzero)

theorem sqrtValue_of_infinity (rm : RoundingMode) (ha : IsInfinityPattern f a) (hsign : signOf f a = false) :
    sqrtValue f rm (unpack f a) = some (withSign f false (infinityMagnitude f)) := by
  rw [unpack_of_infinity ha, hsign]
  rfl

/-! ### The operations as functions of patterns -/

theorem ieeeFunction_add (f : FpFormat) (rm : RoundingMode) (a b : Nat) : ieeeFunction f .add rm a b =
    addValues f rm (unpack f a) (unpackWithSign f (signOf f b) b) := by
  rw [← unpack_eq_unpackWithSign]
  rfl

theorem ieeeFunction_sub (f : FpFormat) (rm : RoundingMode) (a b : Nat) : ieeeFunction f .sub rm a b =
    addValues f rm (unpack f a) (unpackWithSign f (!signOf f b) b) := by
  rw [← negateValue_unpack]
  rfl

theorem ieeeFunction_sqrt (f : FpFormat) (rm : RoundingMode) (a b : Nat) :
    ieeeFunction f .sqrt rm a b = sqrtValue f rm (unpack f a) := rfl

theorem ieeeFunction_recip (f : FpFormat) (rm : RoundingMode) (a b : Nat) :
    ieeeFunction f .recip rm a b = ieeeFunction f .div rm (onePattern f) a := rfl

theorem ieeeFunction_rsqrt_of_some (h : ieeeFunction f .sqrt rm a b = some p) :
    ieeeFunction f .rsqrt rm a b = ieeeFunction f .div rm (onePattern f) p := by
  rw [ieeeFunction_sqrt] at h
  simp only [ieeeFunction, h]

theorem ieeeFunction_rsqrt_of_none (h : ieeeFunction f .sqrt rm a b = none) :
    ieeeFunction f .rsqrt rm a b = none := by
  rw [ieeeFunction_sqrt] at h
  simp only [ieeeFunction, h]

/-! ### 1.0 -/

theorem onePattern_eq (hf : f = binary32 ∨ f = binary64) :
    onePattern f = if f = binary32 then 0x3F800000 else 0x3FF0000000000000 := by
  obtain rfl | rfl := hf <;> rfl

end Sys2Proof.Machine

namespace Sys2Proof.Proofs

open Sys2Proof.Machine

/-- Settles O55, operation by operation, by the classes of the operands. -/
theorem specialArithmeticResults : Obligations.SpecialArithmeticResults := by
  unfold Obligations.SpecialArithmeticResults
  intro f rm a b hf
  dsimp only
  have hflip : signOf f a ≠ signOf f b ↔ signOf f a = !signOf f b := by
    cases signOf f a <;> cases signOf f b <;> decide
  rw [ieeeFunction_recip, ← onePattern_eq hf]
  refine ⟨?addNan, ?subNan, mulValues_eq_none_iff hf rm a b, divValues_eq_none_iff hf rm a b,
    sqrtValue_eq_none_iff hf rm a, fun ha hb hsum => ?addZero, fun ha hb hdiff => ?subZero,
    fun ha hb => mulValues_of_zero rm ha hb, fun hb hzero => divValues_of_zero rm (finite_of_zero hf hzero) hb hzero,
    divValues_by_infinity rm, fun hzero => sqrtValue_of_zero rm (finite_of_zero hf hzero) hzero,
    fun ha hb => ?addInfinityLeft, fun ha hb => ?addInfinityRight, fun ha hb => ?subInfinityLeft,
    fun ha hb => ?subInfinityRight, mulValues_infinity_left rm, mulValues_infinity_right rm,
    divValues_of_infinity rm, fun ha ha0 hzero => divValues_by_zero rm ha (finite_of_zero hf hzero) ha0 hzero,
    sqrtValue_of_infinity rm, rfl, fun r => ieeeFunction_rsqrt_of_some, ieeeFunction_rsqrt_of_none⟩
  case addNan => rw [ieeeFunction_add, addValues_eq_none_iff]
  case subNan =>
    rw [ieeeFunction_sub, addValues_eq_none_iff, Ne, ← hflip, not_ne_iff]
  case addZero =>
    rw [patternValue_eq_withSignQ f b] at hsum
    rw [ieeeFunction_add, addValues_of_sum_zero rm _ ha hb hsum]
  case subZero =>
    rw [sub_eq_add_neg, patternValue_neg] at hdiff
    rw [ieeeFunction_sub, addValues_of_sum_zero rm _ ha hb hdiff]
    simp only [hflip]
  case addInfinityLeft => rw [ieeeFunction_add, addValues_infinity_left rm _ ha hb]
  case addInfinityRight => rw [ieeeFunction_add, addValues_infinity_right rm _ ha hb]
  case subInfinityLeft =>
    rw [hflip] at hb
    rw [ieeeFunction_sub, addValues_infinity_left rm _ ha hb]
  case subInfinityRight => rw [ieeeFunction_sub, addValues_infinity_right rm _ ha hb]

end Sys2Proof.Proofs
end

section
/-! SUPPORT. Rounding to a format (R391): what `roundTo` gives is the exact value rounded once. -/

namespace Sys2Proof.Machine

variable {f : FpFormat} {rm : RoundingMode} {negative : Bool} {x low high : ℚ} {g p : Nat}

/-! ### The binary logarithm of a fraction -/

theorem two_zpow_pos (k : Int) : (0 : ℚ) < 2 ^ k := zpow_pos two_pos k

theorem two_pow_log2_le {n : Nat} (hn : 0 < n) : (2 : ℚ) ^ (n.log2 : Int) ≤ n := by
  exact_mod_cast Nat.log2_self_le hn.ne'

theorem lt_two_pow_log2_succ (n : Nat) : (n : ℚ) < 2 ^ ((n.log2 : Int) + 1) := by
  exact_mod_cast Nat.lt_log2_self

theorem floorLog2_spec {num den : Nat} (hnum : 0 < num) (hden : 0 < den) :
    (2 : ℚ) ^ floorLog2 num den ≤ (num : ℚ) / den ∧ (num : ℚ) / den < 2 ^ (floorLog2 num den + 1) := by
  have hdenQ : (0 : ℚ) < den := by exact_mod_cast hden
  let k : Int := num.log2 - den.log2
  have htest : (scaled den k).1 ≤ num * (scaled den k).2 ↔ (2 : ℚ) ^ k ≤ (num : ℚ) / den := by
    have hpos : (0 : ℚ) < (scaled den k).2 := by exact_mod_cast scaled_den_pos den k
    rw [le_div_iff₀ hdenQ, mul_comm ((2 : ℚ) ^ k), ← scaled_value, div_le_iff₀ hpos]
    exact_mod_cast Iff.rfl
  have hupper : (num : ℚ) / den < 2 ^ (k + 1) := by
    rw [div_lt_iff₀ hdenQ]
    calc (num : ℚ) < 2 ^ ((num.log2 : Int) + 1) := lt_two_pow_log2_succ num
      _ = 2 ^ (k + 1) * 2 ^ (den.log2 : Int) := by rw [← zpow_add₀ two_ne_zero]; congr 1; simp only [k]; ring
      _ ≤ 2 ^ (k + 1) * den := mul_le_mul_of_nonneg_left (two_pow_log2_le hden) (two_zpow_pos _).le
  have hlower : (2 : ℚ) ^ (k - 1) ≤ (num : ℚ) / den := by
    rw [le_div_iff₀ hdenQ]
    calc (2 : ℚ) ^ (k - 1) * den ≤ 2 ^ (k - 1) * 2 ^ ((den.log2 : Int) + 1) :=
          mul_le_mul_of_nonneg_left (lt_two_pow_log2_succ den).le (two_zpow_pos _).le
      _ = 2 ^ (num.log2 : Int) := by rw [← zpow_add₀ two_ne_zero]; congr 1; simp only [k]; ring
      _ ≤ num := two_pow_log2_le hnum
  have hdef : floorLog2 num den = if (scaled den k).1 ≤ num * (scaled den k).2 then k else k - 1 := rfl
  rw [hdef]
  split
  · exact ⟨htest.mp ‹_›, hupper⟩
  · rw [sub_add_cancel]
    exact ⟨hlower, not_le.mp (mt htest.mpr ‹_›)⟩

/-! ### Consequences of a choice -/

theorem ChosenBetween.eq_or_eq (h : ChosenBetween rm negative x low high g p) : p = g ∨ p = g + 1 := by
  unfold ChosenBetween at h
  split at h
  · exact .inl h
  · cases rm with
    | nearestEven =>
      obtain ⟨hbelow, habove, htie⟩ := h
      obtain hlt | heq | hgt := lt_trichotomy (2 * x) (low + high)
      · exact .inl (hbelow hlt)
      · exact (htie heq).1
      · exact .inr (habove hgt)
    | towardZero => exact .inl h
    | up => cases negative <;> simp_all
    | down => cases negative <;> simp_all

/-- The modes and signs whose overflow goes to infinity (R391). -/
def OverflowsToInfinity (rm : RoundingMode) (negative : Bool) : Prop :=
  rm = .nearestEven ∨ (rm = .up ∧ negative = false) ∨ (rm = .down ∧ negative = true)

/-- Only those modes choose the neighbour farther from zero. -/
theorem ChosenBetween.overflowsToInfinity (h : ChosenBetween rm negative x low high g (g + 1)) :
    OverflowsToInfinity rm negative := by
  unfold ChosenBetween at h
  split at h
  · omega
  · cases rm <;> cases negative <;> simp_all [OverflowsToInfinity]

theorem overflowPattern_of_toInfinity (f : FpFormat) (h : OverflowsToInfinity rm negative) :
    overflowPattern f rm negative = withSign f negative (infinityMagnitude f) := by
  obtain rfl | ⟨rfl, rfl⟩ | ⟨rfl, rfl⟩ := h <;> rfl

theorem overflowPattern_of_not_toInfinity (f : FpFormat) (h : ¬ OverflowsToInfinity rm negative) :
    overflowPattern f rm negative = withSign f negative (infinityMagnitude f - 1) := by
  unfold OverflowsToInfinity at h
  cases rm <;> cases negative <;> simp_all [overflowPattern]

/-! ### `roundTo` -/

/-- The weight of the last place of a result, as a power of two. -/
def quantumOf (f : FpFormat) (num den : Nat) (e : Int) : Int :=
  max (floorLog2 num den + e - f.fracBits) (minExponent f)

/-- How many such units the result is, before the range of the format is looked at. -/
def unitsOf (f : FpFormat) (num den : Nat) (e : Int) : Nat :=
  (scaled num (e - quantumOf f num den e)).1 / (den * (scaled num (e - quantumOf f num den e)).2)

/-- The magnitudes numbered up to the first of the result's binade. -/
def binadeOf (f : FpFormat) (num den : Nat) (e : Int) : Nat :=
  (quantumOf f num den e - minExponent f).toNat * 2 ^ f.fracBits

/-- The rounded magnitude, before the range of the format is looked at. -/
def roundedMagnitude (f : FpFormat) (rm : RoundingMode) (negative : Bool) (num den : Nat) (e : Int) : Nat :=
  binadeOf f num den e + roundQuotient rm negative (scaled num (e - quantumOf f num den e)).1
    (den * (scaled num (e - quantumOf f num den e)).2)

theorem roundTo_of_pos {num : Nat} (hnum : 0 < num) (den : Nat) (e : Int) : roundTo f rm negative num den e =
    if infinityMagnitude f ≤ roundedMagnitude f rm negative num den e then overflowPattern f rm negative
    else withSign f negative (roundedMagnitude f rm negative num den e) := if_neg hnum.ne'

/-- The value that is rounded, in units of the last place. -/
theorem scaled_ratio (num den : Nat) (e q : Int) :
    ((scaled num (e - q)).1 : ℚ) / ((den * (scaled num (e - q)).2 : Nat) : ℚ) * 2 ^ q = (num : ℚ) / den * 2 ^ e := by
  push_cast
  rw [mul_comm (den : ℚ), ← div_div, scaled_value, zpow_sub₀ two_ne_zero]
  have := (two_zpow_pos q).ne'
  field_simp

section
variable {num den : Nat} (hnum : 0 < num) (hden : 0 < den) (e : Int)
include hnum hden

theorem unitsOf_lt : unitsOf f num den e < 2 ^ (f.fracBits + 1) := by
  have hpos : 0 < den * (scaled num (e - quantumOf f num den e)).2 := Nat.mul_pos hden (scaled_den_pos _ _)
  have hvalue := scaled_ratio num den e (quantumOf f num den e)
  have hle : floorLog2 num den + e - f.fracBits ≤ quantumOf f num den e := le_max_left _ _
  have hfloor := div_le_ratio (scaled num (e - quantumOf f num den e)).1
    (den * (scaled num (e - quantumOf f num den e)).2)
  have hlt : ((scaled num (e - quantumOf f num den e)).1 : ℚ) /
      ((den * (scaled num (e - quantumOf f num den e)).2 : Nat) : ℚ) < 2 ^ ((f.fracBits : Int) + 1) := by
    rw [← mul_lt_mul_iff_left₀ (two_zpow_pos (quantumOf f num den e)), hvalue]
    calc (num : ℚ) / den * 2 ^ e < 2 ^ (floorLog2 num den + 1) * 2 ^ e :=
          mul_lt_mul_of_pos_right (floorLog2_spec hnum hden).2 (two_zpow_pos e)
      _ = 2 ^ (floorLog2 num den + 1 + e) := (zpow_add₀ two_ne_zero _ _).symm
      _ ≤ 2 ^ ((f.fracBits : Int) + 1 + quantumOf f num den e) := zpow_le_zpow_right₀ one_le_two (by omega)
      _ = _ := zpow_add₀ two_ne_zero _ _
  exact_mod_cast hfloor.trans_lt hlt

theorem le_unitsOf (h : minExponent f < quantumOf f num den e) : 2 ^ f.fracBits ≤ unitsOf f num den e := by
  have hpos : 0 < den * (scaled num (e - quantumOf f num den e)).2 := Nat.mul_pos hden (scaled_den_pos _ _)
  have hvalue := scaled_ratio num den e (quantumOf f num den e)
  have hquantum : quantumOf f num den e = floorLog2 num den + e - f.fracBits := by
    unfold quantumOf at h ⊢
    omega
  have hle : (2 : ℚ) ^ (f.fracBits : Int) ≤ ((scaled num (e - quantumOf f num den e)).1 : ℚ) /
      ((den * (scaled num (e - quantumOf f num den e)).2 : Nat) : ℚ) := by
    rw [← mul_le_mul_iff_left₀ (two_zpow_pos (quantumOf f num den e)), hvalue]
    calc (2 : ℚ) ^ (f.fracBits : Int) * 2 ^ quantumOf f num den e = 2 ^ (floorLog2 num den + e) := by
          rw [← zpow_add₀ two_ne_zero]; congr 1; omega
      _ = 2 ^ floorLog2 num den * 2 ^ e := zpow_add₀ two_ne_zero _ _
      _ ≤ (num : ℚ) / den * 2 ^ e := mul_le_mul_of_nonneg_right (floorLog2_spec hnum hden).1 (two_zpow_pos e).le
  rw [le_div_iff₀ (by exact_mod_cast hpos)] at hle
  exact (Nat.le_div_iff_mul_le hpos).mpr (by exact_mod_cast hle)

/-- The two magnitudes around the value, and the one that `roundTo` chooses. -/
theorem roundedMagnitude_chosen (hfrac : 0 < f.fracBits) (rm : RoundingMode) (negative : Bool) :
    magnitudeValue f (binadeOf f num den e + unitsOf f num den e) ≤ (num : ℚ) / den * 2 ^ e ∧
    (num : ℚ) / den * 2 ^ e < magnitudeValue f (binadeOf f num den e + unitsOf f num den e + 1) ∧
    ChosenMagnitude f rm negative ((num : ℚ) / den * 2 ^ e) (binadeOf f num den e + unitsOf f num den e)
      (roundedMagnitude f rm negative num den e) := by
  have hpos : 0 < den * (scaled num (e - quantumOf f num den e)).2 := Nat.mul_pos hden (scaled_den_pos _ _)
  have hlt := unitsOf_lt (f := f) hnum hden e
  have hmin : minExponent f ≤ quantumOf f num den e := le_max_right _ _
  have hd : (quantumOf f num den e - minExponent f).toNat = 0 ∨ 2 ^ f.fracBits ≤ unitsOf f num den e := by
    obtain heq | hgt := hmin.eq_or_lt
    · exact .inl (by omega)
    · exact .inr (le_unitsOf hnum hden e hgt)
  have hexp : minExponent f + ((quantumOf f num den e - minExponent f).toNat : Int) = quantumOf f num den e := by omega
  have hlow : magnitudeValue f (binadeOf f num den e + unitsOf f num den e) =
      unitsOf f num den e * 2 ^ quantumOf f num den e := by
    rw [binadeOf, magnitudeValue_of_split hd hlt.le, hexp]
  have hhigh : magnitudeValue f (binadeOf f num den e + unitsOf f num den e + 1) =
      ((unitsOf f num den e : ℚ) + 1) * 2 ^ quantumOf f num den e := by
    rw [binadeOf, Nat.add_assoc, magnitudeValue_of_split (hd.imp_right fun h => h.trans (Nat.le_succ _)) hlt, hexp]
    push_cast
    rfl
  have heven : binadeOf f num den e % 2 = 0 :=
    Nat.mod_eq_zero_of_dvd (Dvd.dvd.mul_left (dvd_pow_self 2 hfrac.ne') _)
  have hchosen := (roundQuotient_chosen rm negative (scaled num (e - quantumOf f num den e)).1 hpos).scale
    (two_zpow_pos (quantumOf f num den e)) heven
  rw [chosenMagnitude_iff, hlow, hhigh, ← scaled_ratio num den e (quantumOf f num den e)]
  exact ⟨mul_le_mul_of_nonneg_right (div_le_ratio _ _) (two_zpow_pos _).le,
    mul_lt_mul_of_pos_right (ratio_lt_div_add_one _ hpos) (two_zpow_pos _), hchosen⟩

/-- `roundTo` rounds once (R391). -/
theorem isRoundedPattern_roundTo (hfrac : 0 < f.fracBits) (rm : RoundingMode) (negative : Bool) :
    IsRoundedPattern f rm negative ((num : ℚ) / den * 2 ^ e) (roundTo f rm negative num den e) := by
  obtain ⟨hlow, hhigh, hchosen⟩ := roundedMagnitude_chosen (f := f) hnum hden e hfrac rm negative
  have hmono := magnitudeValue_strictMono f
  rw [roundTo_of_pos hnum]
  generalize binadeOf f num den e + unitsOf f num den e = g at *
  generalize roundedMagnitude f rm negative num den e = p at *
  have hp := ChosenBetween.eq_or_eq hchosen
  refine ⟨fun hx => ?inRange, fun hx => ?overflow⟩
  case inRange =>
    have hg : g < infinityMagnitude f := hmono.lt_iff_lt.mp (hlow.trans_lt hx)
    refine ⟨g, p, hg, hlow, hhigh, hchosen, ?_⟩
    split
    · obtain rfl : p = g + 1 := by omega
      rw [overflowPattern_of_toInfinity f (ChosenBetween.overflowsToInfinity hchosen)]
      congr 1
      omega
    · rfl
  case overflow =>
    have hg : infinityMagnitude f < g + 1 := hmono.lt_iff_lt.mp (hx.trans_lt hhigh)
    rw [if_pos (by omega)]
    split
    · exact overflowPattern_of_toInfinity f ‹_›
    · exact overflowPattern_of_not_toInfinity f ‹_›

end

/-! ### Patterns fit their registers -/

theorem withSign_lt {m : Nat} (h : m < 2 ^ (f.expBits + f.fracBits)) (negative : Bool) :
    withSign f negative m < 2 ^ (f.expBits + f.fracBits + 1) := by
  rw [withSign, Nat.pow_succ]
  split <;> omega

theorem roundTo_lt (f : FpFormat) (rm : RoundingMode) (negative : Bool) (num den : Nat) (e : Int) :
    roundTo f rm negative num den e < 2 ^ (f.expBits + f.fracBits + 1) := by
  have hinf := infinityMagnitude_lt f
  obtain rfl | hnum := Nat.eq_zero_or_pos num
  · rw [roundTo_zero]
    exact withSign_lt (Nat.two_pow_pos _) _
  rw [roundTo_of_pos hnum]
  split
  · by_cases hto : OverflowsToInfinity rm negative
    · rw [overflowPattern_of_toInfinity f hto]
      exact withSign_lt hinf _
    · rw [overflowPattern_of_not_toInfinity f hto]
      exact withSign_lt (by omega) _
  · exact withSign_lt (by omega) _

/-! ### Conversions to floating point (R410, R411) -/

/-- What a conversion of an integer gives. -/
def IsConvertedInteger (f : FpFormat) (rm : RoundingMode) (x : Int) (bits : Nat) : Prop :=
  (x = 0 → bits = 0) ∧ (x ≠ 0 → IsRoundedPattern f rm (decide (x < 0)) |(x : ℚ)| bits)

theorem isConvertedInteger_ofIntExact (hfrac : 0 < f.fracBits) (rm : RoundingMode) (x : Int) :
    IsConvertedInteger f rm x (ofIntExact f rm x) := by
  refine ⟨fun hx => ?_, fun hx => ?_⟩
  · subst hx
    exact roundTo_zero f rm false 1 0
  · have h := isRoundedPattern_roundTo (f := f) (Int.natAbs_pos.mpr hx) Nat.one_pos 0 hfrac rm (decide (x < 0))
    rwa [Nat.cast_one, div_one, zpow_zero, mul_one, Nat.cast_natAbs, Int.cast_abs] at h

theorem ofIntExact_lt (f : FpFormat) (rm : RoundingMode) (x : Int) :
    ofIntExact f rm x < 2 ^ (f.expBits + f.fracBits + 1) := roundTo_lt _ _ _ _ _ _

/-- What a conversion of a pattern gives. -/
def IsConvertedPattern (src dst : FpFormat) (rm : RoundingMode) (old bits : Nat) : Prop :=
  (isNan src old = true → isNan dst bits = true) ∧
    (IsInfinityPattern src old → bits = withSign dst (signOf src old) (infinityMagnitude dst)) ∧
    (magnitudeOf src old = 0 → bits = withSign dst (signOf src old) 0) ∧
    (IsFinitePattern src old → magnitudeOf src old ≠ 0 →
      IsRoundedPattern dst rm (signOf src old) |patternValue src old| bits)

theorem abs_patternValue (f : FpFormat) (a : Nat) : |patternValue f a| = magnitudeValue f (magnitudeOf f a) := by
  rw [patternValue_eq_withSignQ]
  cases signOf f a <;> simp [withSignQ, abs_of_nonneg (magnitudeValue_nonneg f _)]

variable {src dst : FpFormat} {old : Nat}

theorem isNan_of_convertFormat_eq_none (h : convertFormat src dst rm old = none) : isNan src old = true := by
  obtain hfin | hinf | hnan := pattern_trichotomy src old
  · simp [convertFormat, unpack_of_finite hfin] at h
  · simp [convertFormat, unpack_of_infinity hinf] at h
  · exact hnan

theorem isConvertedPattern_of_nan (hsrc : src = binary32 ∨ src = binary64) (hold : isNan src old = true) {bits : Nat}
    (hbits : isNan dst bits = true) : IsConvertedPattern src dst rm old bits :=
  ⟨fun _ => hbits, fun h => absurd h (not_infinity_of_nan hold), fun h => absurd h (not_zero_of_nan hsrc hold),
    fun h => absurd h (not_finite_of_nan hold)⟩

theorem isConvertedPattern_of_some (hsrc : src = binary32 ∨ src = binary64) (hfrac : 0 < dst.fracBits)
    (h : convertFormat src dst rm old = some p) : IsConvertedPattern src dst rm old p := by
  obtain hfin | hinf | hnan := pattern_trichotomy src old
  · rw [convertFormat, unpack_of_finite hfin, Option.some_inj] at h
    subst h
    refine ⟨fun hnan => absurd hfin (not_finite_of_nan hnan), fun hinf => absurd hinf (not_infinity_of_finite hfin),
      fun hzero => ?_, fun _ hzero => ?_⟩
    · rw [significandOf_eq_zero_iff.mpr hzero, roundTo_zero]
    · have hpos := Nat.pos_of_ne_zero (mt (significandOf_eq_zero_iff (f := src)).mp hzero)
      have hround := isRoundedPattern_roundTo (f := dst) hpos Nat.one_pos (exponentOf src (magnitudeOf src old)) hfrac
        rm (signOf src old)
      rwa [Nat.cast_one, div_one, ← magnitudeValue_eq, ← abs_patternValue] at hround
  · rw [convertFormat, unpack_of_infinity hinf, Option.some_inj] at h
    subst h
    exact ⟨fun hnan => absurd hinf (not_infinity_of_nan hnan), fun _ => rfl,
      fun hzero => absurd hzero (not_zero_of_infinity hsrc hinf), fun hfin => absurd hfin (not_finite_of_infinity hinf)⟩
  · simp [convertFormat, unpack_of_nan hnan] at h

theorem convertFormat_lt (h : convertFormat src dst rm old = some p) : p < 2 ^ (dst.expBits + dst.fracBits + 1) := by
  obtain hfin | hinf | hnan := pattern_trichotomy src old
  · rw [convertFormat, unpack_of_finite hfin, Option.some_inj] at h
    exact h ▸ roundTo_lt _ _ _ _ _ _
  · rw [convertFormat, unpack_of_infinity hinf, Option.some_inj] at h
    exact h ▸ withSign_lt (infinityMagnitude_lt dst) _
  · simp [convertFormat, unpack_of_nan hnan] at h

end Sys2Proof.Machine

namespace Sys2Proof.Proofs

open Sys2Proof.Machine

/-- Settles O58: every conversion is `roundTo` of the exact value, whose result fits the register. -/
theorem conversionsToFloatingPoint : Obligations.ConversionsToFloatingPoint := by
  unfold Obligations.ConversionsToFloatingPoint
  intro s fd fs hcp1
  dsimp only
  have hfrac32 : 0 < binary32.fracBits := by decide
  have hfrac64 : 0 < binary64.fracBits := by decide
  have ofInteger32 : ∀ x : Int, IsConvertedInteger binary32 (roundingMode s) x
      (BitVec.ofNat 32 (ofIntExact binary32 (roundingMode s) x)).toNat := fun x => by
    rw [BitVec.toNat_ofNat, Nat.mod_eq_of_lt (b := 2 ^ 32) (ofIntExact_lt binary32 _ _)]
    exact isConvertedInteger_ofIntExact hfrac32 _ x
  have ofInteger64 : ∀ x : Int, IsConvertedInteger binary64 (roundingMode s) x
      (BitVec.ofNat 64 (ofIntExact binary64 (roundingMode s) x)).toNat := fun x => by
    rw [BitVec.toNat_ofNat, Nat.mod_eq_of_lt (b := 2 ^ 64) (ofIntExact_lt binary64 _ _)]
    exact isConvertedInteger_ofIntExact hfrac64 _ x
  refine ⟨?double, put32_rule hcp1 rfl (ofInteger32 _), put32_rule hcp1 rfl (ofInteger32 _), ?single,
    put64_rule hcp1 rfl (ofInteger64 _), put64_rule hcp1 rfl (ofInteger64 _)⟩
  case double =>
    refine writesFpr32_of_writeResult32 (requireCp1_of_enabled hcp1) (fun v hv => ?_) fun hnone w =>
      isConvertedPattern_of_nan (.inr rfl) (isNan_of_convertFormat_eq_none (Option.map_eq_none_iff.mp hnone))
        (isNan_nanPattern32 w)
    obtain ⟨p, hp, rfl⟩ := Option.map_eq_some_iff.mp hv
    rw [BitVec.toNat_ofNat, Nat.mod_eq_of_lt (b := 2 ^ 32) (convertFormat_lt hp)]
    exact isConvertedPattern_of_some (.inr rfl) hfrac32 hp
  case single =>
    refine writesFpr64_of_writeResult64 (requireCp1_of_enabled hcp1) (fun v hv => ?_) fun hnone w =>
      isConvertedPattern_of_nan (.inl rfl) (isNan_of_convertFormat_eq_none (Option.map_eq_none_iff.mp hnone))
        (isNan_nanPattern64 w)
    obtain ⟨p, hp, rfl⟩ := Option.map_eq_some_iff.mp hv
    rw [BitVec.toNat_ofNat, Nat.mod_eq_of_lt (b := 2 ^ 64) (convertFormat_lt hp)]
    exact isConvertedPattern_of_some (.inl rfl) hfrac64 hp

end Sys2Proof.Proofs
end

section
/-! SUPPORT. The arithmetic of the default numerics (R391): sums, products and quotients rounded once, and the square
root, whose integer root with a sticky bit compares with every magnitude as the exact root does. -/

namespace Sys2Proof.Machine

variable {f : FpFormat} {rm : RoundingMode} {a b : Nat}

/-! ### Sums, products and quotients -/

theorem fracBits_pos (hf : f = binary32 ∨ f = binary64) : 0 < f.fracBits := by
  obtain rfl | rfl := hf <;> decide

theorem withSignQ_magnitudeValue (f : FpFormat) (n : Bool) (g : Nat) :
    withSignQ n (magnitudeValue f g) = signedSignificand n (significandOf f g) * 2 ^ exponentOf f g := by
  rw [magnitudeValue_eq]
  cases n <;> simp [withSignQ, signedSignificand]

/-- The sum of two finite numbers, the second with the sign `n`. -/
theorem addValues_rounded (hfrac : 0 < f.fracBits) (rm : RoundingMode) (n : Bool) (ha : IsFinitePattern f a)
    (hb : IsFinitePattern f b) {z : ℚ}
    (hz : z = patternValue f a + withSignQ n (magnitudeValue f (magnitudeOf f b))) (hne : z ≠ 0) :
    ∃ p, addValues f rm (unpack f a) (unpackWithSign f n b) = some p ∧
      IsRoundedPattern f rm (decide (z < 0)) |z| p := by
  have hzero : exactSum (signOf f a) (significandOf f (magnitudeOf f a)) (exponentOf f (magnitudeOf f a)) n
      (significandOf f (magnitudeOf f b)) (exponentOf f (magnitudeOf f b)) ≠ 0 := by
    rwa [Ne, exactSum_eq_zero_iff, ← hz]
  rw [withSignQ_magnitudeValue, patternValue_eq, exactSum_value] at hz
  rw [unpack_of_finite ha, unpackWithSign_of_finite n hb, addValues_finite, if_neg hzero]
  generalize exactSum _ _ _ _ _ _ = sum at hz hzero ⊢
  generalize (min _ _ : Int) = low at hz ⊢
  have hpow := two_zpow_pos low
  have hsign : z < 0 ↔ sum < 0 := by
    rw [hz, ← not_le, mul_nonneg_iff_of_pos_right hpow, not_le]
    exact_mod_cast Iff.rfl
  have habs : |z| = (sum.natAbs : ℚ) / (1 : Nat) * 2 ^ low := by
    rw [hz, abs_mul, abs_of_pos hpow, Nat.cast_one, div_one, Nat.cast_natAbs, Int.cast_abs]
  refine ⟨_, rfl, ?_⟩
  simp only [hsign]
  rw [habs]
  exact isRoundedPattern_roundTo (Int.natAbs_pos.mpr hzero) Nat.one_pos low hfrac rm _

theorem decide_patternValue_neg (h : patternValue f a ≠ 0) : decide (patternValue f a < 0) = signOf f a := by
  have hnonneg := magnitudeValue_nonneg f (magnitudeOf f a)
  rw [patternValue_eq_withSignQ] at h ⊢
  cases hsign : signOf f a
  · simpa [withSignQ] using hnonneg
  · rw [hsign, withSignQ, if_pos rfl, neg_ne_zero] at h
    simpa [withSignQ] using lt_of_le_of_ne hnonneg h.symm

theorem decide_mul_neg {x y : ℚ} (hx : x ≠ 0) (hy : y ≠ 0) :
    decide (x * y < 0) = (decide (x < 0) ^^ decide (y < 0)) := by
  obtain hx | hx := lt_or_gt_of_ne hx <;> obtain hy | hy := lt_or_gt_of_ne hy
  · rw [decide_eq_true hx, decide_eq_true hy, decide_eq_false (mul_pos_of_neg_of_neg hx hy).not_gt]
    rfl
  · rw [decide_eq_true hx, decide_eq_false hy.not_gt, decide_eq_true (mul_neg_of_neg_of_pos hx hy)]
    rfl
  · rw [decide_eq_false hx.not_gt, decide_eq_true hy, decide_eq_true (mul_neg_of_pos_of_neg hx hy)]
    rfl
  · rw [decide_eq_false hx.not_gt, decide_eq_false hy.not_gt, decide_eq_false (mul_pos hx hy).not_gt]
    rfl

theorem decide_div_neg {x y : ℚ} (hx : x ≠ 0) (hy : y ≠ 0) :
    decide (x / y < 0) = (decide (x < 0) ^^ decide (y < 0)) := by
  rw [div_eq_mul_inv, decide_mul_neg hx (inv_ne_zero hy)]
  simp only [inv_lt_zero']

theorem significandOf_pos (h : patternValue f a ≠ 0) : 0 < significandOf f (magnitudeOf f a) := by
  refine Nat.pos_of_ne_zero fun hzero => h ?_
  rw [patternValue_eq, hzero]
  cases signOf f a <;> simp [signedSignificand]

theorem mulValues_rounded (hfrac : 0 < f.fracBits) (rm : RoundingMode) (ha : IsFinitePattern f a)
    (hb : IsFinitePattern f b) (hne : patternValue f a * patternValue f b ≠ 0) :
    ∃ p, mulValues f rm (unpack f a) (unpack f b) = some p ∧
      IsRoundedPattern f rm (decide (patternValue f a * patternValue f b < 0))
        |patternValue f a * patternValue f b| p := by
  obtain ⟨hx, hy⟩ := mul_ne_zero_iff.mp hne
  rw [unpack_of_finite ha, unpack_of_finite hb, mulValues, decide_mul_neg hx hy, decide_patternValue_neg hx,
    decide_patternValue_neg hy]
  have hround := isRoundedPattern_roundTo (f := f) (Nat.mul_pos (significandOf_pos hx) (significandOf_pos hy))
    Nat.one_pos (exponentOf f (magnitudeOf f a) + exponentOf f (magnitudeOf f b)) hfrac rm
    (signOf f a ^^ signOf f b)
  rw [Nat.cast_one, div_one, Nat.cast_mul, zpow_add₀ two_ne_zero, mul_mul_mul_comm, ← magnitudeValue_eq,
    ← magnitudeValue_eq, ← abs_patternValue, ← abs_patternValue, ← abs_mul] at hround
  exact ⟨_, rfl, hround⟩

theorem divValues_rounded (hfrac : 0 < f.fracBits) (rm : RoundingMode) (ha : IsFinitePattern f a)
    (hb : IsFinitePattern f b) (hx : patternValue f a ≠ 0) (hy : patternValue f b ≠ 0) :
    ∃ p, divValues f rm (unpack f a) (unpack f b) = some p ∧
      IsRoundedPattern f rm (decide (patternValue f a / patternValue f b < 0))
        |patternValue f a / patternValue f b| p := by
  rw [unpack_of_finite ha, unpack_of_finite hb, divValues, if_neg (significandOf_pos hy).ne', decide_div_neg hx hy,
    decide_patternValue_neg hx, decide_patternValue_neg hy]
  have hround := isRoundedPattern_roundTo (f := f) (significandOf_pos hx) (significandOf_pos hy)
    (exponentOf f (magnitudeOf f a) - exponentOf f (magnitudeOf f b)) hfrac rm (signOf f a ^^ signOf f b)
  rw [zpow_sub₀ two_ne_zero, div_mul_div_comm, ← magnitudeValue_eq, ← magnitudeValue_eq, ← abs_patternValue,
    ← abs_patternValue, ← abs_div] at hround
  exact ⟨_, rfl, hround⟩

/-! ### The integer square root -/

theorem isqrtFrom_spec (k n : Nat) : ∀ root, root * root ≤ n → n < (root + 2 ^ k) * (root + 2 ^ k) →
    isqrtFrom k n root * isqrtFrom k n root ≤ n ∧ n < (isqrtFrom k n root + 1) * (isqrtFrom k n root + 1) := by
  induction k with
  | zero => exact fun root hle hlt => ⟨hle, hlt⟩
  | succ k ih =>
    intro root hle hlt
    rw [isqrtFrom]
    split
    · refine ih _ ‹_› ?_
      rwa [Nat.add_assoc, ← Nat.two_mul, ← Nat.pow_succ']
    · exact ih _ hle (Nat.lt_of_not_le ‹_›)

end Sys2Proof.Machine
end

section
/-! SUPPORT. The square root (R391): the integer root with its sticky bit lies among the magnitudes, and among the
points half-way between them, as the exact root does. -/

namespace Sys2Proof.Machine

variable {f : FpFormat} {rm : RoundingMode} {a : Nat} {x X v : ℚ} {n r : Nat}

/-! ### The integer root with its sticky bit -/

/-- Twice the integer root, and one more when the root is inexact. -/
def stickyRoot (n r : Nat) : Nat := 2 * r + if r * r = n then 0 else 1

theorem stickyRoot_lt_iff (hle : r * r ≤ n) (hlt : n < (r + 1) * (r + 1)) (c : Nat) :
    stickyRoot n r < 2 * c ↔ n < c * c := by
  have hroot : stickyRoot n r < 2 * c ↔ r < c := by
    unfold stickyRoot
    split <;> omega
  rw [hroot]
  exact ⟨fun h => hlt.trans_le (Nat.mul_le_mul h h), fun h => Nat.mul_self_lt_mul_self_iff.mp (hle.trans_lt h)⟩

theorem stickyRoot_eq_iff (hle : r * r ≤ n) (hlt : n < (r + 1) * (r + 1)) (c : Nat) :
    stickyRoot n r = 2 * c ↔ n = c * c := by
  constructor
  · intro h
    unfold stickyRoot at h
    split at h
    · obtain rfl : r = c := by omega
      exact Eq.symm ‹_›
    · omega
  · rintro rfl
    have hrc : r ≤ c := Nat.mul_self_le_mul_self_iff.mp hle
    have hcr : c < r + 1 := Nat.mul_self_lt_mul_self_iff.mp hlt
    obtain rfl : r = c := by omega
    rw [stickyRoot, if_pos rfl, Nat.add_zero]

/-- `X` lies to `v` as the square root of `x` does. -/
def ComparesAsRoot (x X v : ℚ) : Prop := (X < v ↔ x < v * v) ∧ (X = v ↔ x = v * v)

/-- The integer root of `n`, in units of `2 ^ h`, compares with their multiples as the root of `n` squared units does.
-/
theorem stickyRoot_comparesAsRoot (hle : r * r ≤ n) (hlt : n < (r + 1) * (r + 1)) (h : Int) (c : Nat) :
    ComparesAsRoot (n * (2 ^ h * 2 ^ h)) (stickyRoot n r * 2 ^ (h - 1)) (c * 2 ^ h) := by
  have hpow := two_zpow_pos h
  have hhalf : (2 : ℚ) ^ (h - 1) = 2 ^ h / 2 := zpow_sub_one₀ two_ne_zero h
  have hroot : (stickyRoot n r : ℚ) * 2 ^ (h - 1) = stickyRoot n r / 2 * 2 ^ h := by rw [hhalf]; ring
  have hsquare : (c : ℚ) * 2 ^ h * (c * 2 ^ h) = c * c * (2 ^ h * 2 ^ h) := by ring
  have hpow2 : (0 : ℚ) < 2 ^ h * 2 ^ h := mul_pos hpow hpow
  rw [ComparesAsRoot, hroot, hsquare, mul_lt_mul_iff_left₀ hpow, mul_lt_mul_iff_left₀ hpow2,
    mul_left_inj' hpow.ne', mul_left_inj' hpow2.ne', div_lt_iff₀ two_pos, div_eq_iff two_ne_zero]
  constructor
  · rw [mul_comm]
    exact_mod_cast stickyRoot_lt_iff hle hlt c
  · rw [mul_comm]
    exact_mod_cast stickyRoot_eq_iff hle hlt c

/-! ### Rounding what compares as the root -/

/-- A number that compares as the root with its neighbours and their middle, which the root never is, rounds as the
root does. -/
theorem isRoundedRoot_of_isRoundedPattern {bits : Nat} (hround : IsRoundedPattern f rm false X bits)
    (hrange : X < magnitudeValue f (infinityMagnitude f))
    (hcompare : ∀ g, magnitudeValue f g ≤ X → X < magnitudeValue f (g + 1) →
      ComparesAsRoot x X (magnitudeValue f g) ∧ ComparesAsRoot x X (magnitudeValue f (g + 1)) ∧
      ComparesAsRoot x X ((magnitudeValue f g + magnitudeValue f (g + 1)) / 2) ∧
      X ≠ (magnitudeValue f g + magnitudeValue f (g + 1)) / 2) : IsRoundedRoot f rm x bits := by
  obtain ⟨g, p, -, hlow, hhigh, hchosen, rfl⟩ := hround.1 hrange
  obtain ⟨⟨hlowLt, hlowEq⟩, ⟨hhighLt, -⟩, ⟨hmidLt, hmidEq⟩, hmid⟩ := hcompare g hlow hhigh
  have hbits : withSign f false p = p := Nat.zero_add p
  rw [hbits]
  refine ⟨g, not_lt.mp (mt hlowLt.mpr hlow.not_gt), hhighLt.mp hhigh, fun hx => ?exact, fun hx => ?inexact⟩
  case exact =>
    unfold ChosenMagnitude at hchosen
    rwa [if_pos (hlowEq.mpr hx)] at hchosen
  case inexact =>
    unfold ChosenMagnitude at hchosen
    rw [if_neg (mt hlowEq.mp hx)] at hchosen
    cases rm with
    | nearestEven =>
      obtain ⟨hbelow, habove, -⟩ := hchosen
      refine ⟨fun h => hbelow ?_, fun h => habove ?_⟩
      · linarith [hmidLt.mpr (by linarith)]
      · have hnotBelow : ¬ X < _ := mt hmidLt.mp (by linarith)
        linarith [lt_of_le_of_ne (not_lt.mp hnotBelow) hmid.symm]
    | towardZero => exact hchosen
    | up => exact hchosen
    | down => exact hchosen

/-! ### The grid of a format under the units of the root -/

theorem minExponent_le_exponentOf (f : FpFormat) (g : Nat) : minExponent f ≤ exponentOf f g := by
  unfold exponentOf
  split
  · exact le_rfl
  · have := Nat.pos_of_ne_zero ‹_›
    omega

/-- The neighbours of a number of many units are multiples of two units. -/
theorem neighbours_are_multiples {h : Int} {g : Nat} (hbig : 2 ^ (f.fracBits + 2) * (2 : ℚ) ^ h ≤ X)
    (hX : X < magnitudeValue f (g + 1)) : ∃ K j d : Nat, (d = 0 ∨ 2 ^ f.fracBits ≤ K) ∧
      minExponent f + d = h + (j + 1) ∧ magnitudeValue f g = (K * 2 ^ (j + 1) : Nat) * 2 ^ h ∧
      magnitudeValue f (g + 1) = ((K + 1) * 2 ^ (j + 1) : Nat) * 2 ^ h := by
  obtain ⟨d, K, rfl, hd, hK⟩ := exists_split f g
  have hlow := magnitudeValue_of_split hd hK.le
  have hhigh : magnitudeValue f (d * 2 ^ f.fracBits + (K + 1)) = (K + 1 : Nat) * 2 ^ (minExponent f + d) :=
    magnitudeValue_of_split (hd.imp_right fun h => h.trans (Nat.le_succ K)) hK
  rw [← Nat.add_assoc] at hhigh
  have hlt : (2 : ℚ) ^ ((f.fracBits : Int) + 2 + h) < 2 ^ ((f.fracBits : Int) + 1 + (minExponent f + d)) := by
    calc (2 : ℚ) ^ ((f.fracBits : Int) + 2 + h) = 2 ^ (f.fracBits + 2) * 2 ^ h := by
          rw [zpow_add₀ two_ne_zero]; norm_cast
      _ ≤ X := hbig
      _ < (K + 1 : Nat) * 2 ^ (minExponent f + d) := hhigh ▸ hX
      _ ≤ (2 ^ (f.fracBits + 1) : Nat) * 2 ^ (minExponent f + d) :=
          mul_le_mul_of_nonneg_right (by exact_mod_cast hK) (two_zpow_pos _).le
      _ = _ := by rw [zpow_add₀ two_ne_zero ((f.fracBits : Int) + 1)]; norm_cast
  have hexp := (zpow_lt_zpow_iff_right₀ one_lt_two).mp hlt
  obtain ⟨j, hj⟩ := Int.eq_ofNat_of_zero_le (show 0 ≤ minExponent f + d - h - 1 by omega)
  have hsum : minExponent f + d = h + (j + 1) := by omega
  have hpow : (2 : ℚ) ^ (minExponent f + d) = 2 ^ (j + 1) * 2 ^ h := by
    rw [hsum, zpow_add₀ two_ne_zero, mul_comm]
    norm_cast
  refine ⟨K, j, d, hd, hsum, ?_, ?_⟩
  · rw [hlow, hpow]
    push_cast
    ring
  · rw [hhigh, hpow]
    push_cast
    ring

/-- The square of an odd number of units is not a significand with its exponent: it has too many bits. -/
theorem odd_square_ne {m K d : Nat} {e q : Int} (hm : m < 2 ^ (f.fracBits + 1)) (he : minExponent f ≤ e)
    (hmin : minExponent f < 0) (hd : d = 0 ∨ 2 ^ f.fracBits ≤ K) (hq : minExponent f + d = q + 1) :
    (m : ℚ) * 2 ^ e ≠ ((2 * K + 1 : Nat) * 2 ^ q) * ((2 * K + 1 : Nat) * 2 ^ q) := by
  intro heq
  have hsquare : ((2 * K + 1 : Nat) : ℚ) * 2 ^ q * ((2 * K + 1 : Nat) * 2 ^ q) =
      ((2 * K + 1) * (2 * K + 1) : Nat) * 2 ^ (q + q) := by
    rw [zpow_add₀ two_ne_zero]
    push_cast
    ring
  rw [hsquare] at heq
  obtain hle | hgt := le_or_gt e (q + q)
  · obtain ⟨j, hj⟩ := Int.eq_ofNat_of_zero_le (show 0 ≤ q + q - e by omega)
    have hm' : m = (2 * K + 1) * (2 * K + 1) * 2 ^ j := by
      rw [show q + q = (j : Int) + e by omega, zpow_add₀ two_ne_zero, ← mul_assoc,
        mul_left_inj' (two_zpow_pos e).ne'] at heq
      exact_mod_cast heq
    have hK : 2 ^ f.fracBits ≤ K := hd.resolve_left (by omega)
    have hpos := Nat.two_pow_pos j
    rw [Nat.pow_succ] at hm
    nlinarith [Nat.le_mul_of_pos_right ((2 * K + 1) * (2 * K + 1)) hpos]
  · obtain ⟨j, hj⟩ := Int.eq_ofNat_of_zero_le (show 0 ≤ e - (q + q) - 1 by omega)
    have hm' : m * 2 ^ (j + 1) = (2 * K + 1) * (2 * K + 1) := by
      rw [show e = ((j + 1 : Nat) : Int) + (q + q) by omega, zpow_add₀ two_ne_zero, ← mul_assoc,
        mul_left_inj' (two_zpow_pos _).ne'] at heq
      exact_mod_cast heq
    have heven : (m * 2 ^ (j + 1)) % 2 = 0 := by
      rw [Nat.pow_succ, ← Nat.mul_assoc, Nat.mul_mod_left]
    have hodd : ((2 * K + 1) * (2 * K + 1)) % 2 = 1 := by
      rw [Nat.mul_mod, Nat.mul_add_mod]
    omega

/-! ### `sqrtPositive` -/

/-- How far the significand is widened. -/
def rootShift (e : Int) : Nat := 120 + (e % 2).toNat

/-- The exponent of the units of the root. -/
def rootExponent (e : Int) : Int := (e - rootShift e) / 2

/-- The widened significand. -/
def widened (m : Nat) (e : Int) : Nat := m * 2 ^ rootShift e

/-- The integer root of the widened significand. -/
def integerRoot (m : Nat) (e : Int) : Nat := isqrtFrom 90 (widened m e) 0

theorem sqrtPositive_eq (f : FpFormat) (rm : RoundingMode) (m : Nat) (e : Int) : sqrtPositive f rm m e =
    roundTo f rm false (stickyRoot (widened m e) (integerRoot m e)) 1 (rootExponent e - 1) := rfl

theorem rootExponent_spec (e : Int) : e = rootShift e + (rootExponent e + rootExponent e) := by
  unfold rootExponent rootShift
  omega

theorem value_eq_widened (m : Nat) (e : Int) :
    (m : ℚ) * 2 ^ e = widened m e * (2 ^ rootExponent e * 2 ^ rootExponent e) := by
  rw [widened, Nat.cast_mul, mul_assoc, ← zpow_add₀ two_ne_zero, Nat.cast_pow, Nat.cast_two, ← zpow_natCast,
    ← zpow_add₀ two_ne_zero, ← rootExponent_spec]

section
variable {m : Nat} (hpos : 0 < m) (hm : m < 2 ^ 53) (e : Int)

include hm in
theorem integerRoot_spec : integerRoot m e * integerRoot m e ≤ widened m e ∧
    widened m e < (integerRoot m e + 1) * (integerRoot m e + 1) := by
  have hshift : rootShift e ≤ 121 := by
    unfold rootShift
    omega
  refine isqrtFrom_spec 90 (widened m e) 0 (Nat.zero_le _) ?_
  calc widened m e < 2 ^ 53 * 2 ^ rootShift e := Nat.mul_lt_mul_of_pos_right hm (Nat.two_pow_pos _)
    _ ≤ 2 ^ 53 * 2 ^ 121 := Nat.mul_le_mul_left _ (Nat.pow_le_pow_right two_pos hshift)
    _ ≤ (0 + 2 ^ 90) * (0 + 2 ^ 90) := by norm_num

include hpos hm in
theorem le_integerRoot : 2 ^ 60 ≤ integerRoot m e := by
  have hwide : 2 ^ 60 * 2 ^ 60 ≤ widened m e := by
    rw [← Nat.pow_add]
    exact (Nat.pow_le_pow_right two_pos (by unfold rootShift; omega)).trans (Nat.le_mul_of_pos_left _ hpos)
  exact Nat.le_of_lt_succ (Nat.mul_self_lt_mul_self_iff.mp (hwide.trans_lt (integerRoot_spec hm e).2))

end

/-- Below the magnitude `V` from 4 on, the rounded root stays below it. -/
theorem stickyRoot_lt_of_value_lt {V : ℚ} {h : Int} (hle : r * r ≤ n) (hr : 1 ≤ r) (hV : 4 ≤ V)
    (hn : n * ((2 : ℚ) ^ h * 2 ^ h) < V) : stickyRoot n r * (2 : ℚ) ^ (h - 1) < V := by
  have hpow := two_zpow_pos h
  have hsticky : stickyRoot n r ≤ 4 * r := by
    unfold stickyRoot
    split <;> omega
  have hroot : (stickyRoot n r : ℚ) * 2 ^ (h - 1) ≤ 2 * r * 2 ^ h := by
    rw [zpow_sub_one₀ two_ne_zero]
    have : (stickyRoot n r : ℚ) ≤ 4 * r := by exact_mod_cast hsticky
    nlinarith
  have hsquare : (r : ℚ) * 2 ^ h * (r * 2 ^ h) ≤ n * (2 ^ h * 2 ^ h) := by
    have : (r : ℚ) * r ≤ n := by exact_mod_cast hle
    nlinarith [mul_pos hpow hpow]
  by_contra hge
  have hbig : V ≤ 2 * (r * 2 ^ h) := by linarith
  nlinarith

theorem magnitudeValue_infinity (f : FpFormat) (htop : 1 ≤ topExponentField f) :
    magnitudeValue f (infinityMagnitude f) = 2 ^ f.fracBits * 2 ^ (minExponent f + (topExponentField f - 1 : Nat)) := by
  have hsplit : infinityMagnitude f = (topExponentField f - 1) * 2 ^ f.fracBits + 2 ^ f.fracBits := by
    rw [infinityMagnitude, ← Nat.succ_mul, Nat.succ_eq_add_one, Nat.sub_add_cancel htop]
  rw [hsplit, magnitudeValue_of_split (.inr le_rfl) (Nat.pow_le_pow_right two_pos (Nat.le_succ _))]
  norm_cast

theorem four_le_infinity (hf : f = binary32 ∨ f = binary64) : 4 ≤ magnitudeValue f (infinityMagnitude f) := by
  have htop : 1 ≤ topExponentField f ∧ 2 ≤ (f.fracBits : Int) + (minExponent f + (topExponentField f - 1 : Nat)) := by
    obtain rfl | rfl := hf <;> decide
  rw [magnitudeValue_infinity f htop.1, ← zpow_natCast, ← zpow_add₀ two_ne_zero]
  calc (4 : ℚ) = 2 ^ (2 : Int) := by norm_num
    _ ≤ _ := zpow_le_zpow_right₀ one_le_two htop.2

theorem minExponent_neg (hf : f = binary32 ∨ f = binary64) : minExponent f < 0 := by
  obtain rfl | rfl := hf <;> decide

theorem fracBits_le (hf : f = binary32 ∨ f = binary64) : f.fracBits ≤ 52 := by
  obtain rfl | rfl := hf <;> decide

theorem isRoundedRoot_sqrtPositive (hf : f = binary32 ∨ f = binary64) (rm : RoundingMode) {m : Nat} {e : Int}
    (hpos : 0 < m) (hm : m < 2 ^ (f.fracBits + 1)) (he : minExponent f ≤ e)
    (hx : (m : ℚ) * 2 ^ e < magnitudeValue f (infinityMagnitude f)) :
    IsRoundedRoot f rm (m * 2 ^ e) (sqrtPositive f rm m e) := by
  have hm53 : m < 2 ^ 53 := hm.trans_le (Nat.pow_le_pow_right two_pos (Nat.succ_le_succ (fracBits_le hf)))
  obtain ⟨hle, hlt⟩ := integerRoot_spec hm53 e
  have hroot := le_integerRoot hpos hm53 e
  have hvalue := value_eq_widened m e
  have hsticky : 0 < stickyRoot (widened m e) (integerRoot m e) := by
    unfold stickyRoot
    omega
  have hround := isRoundedPattern_roundTo (f := f) hsticky Nat.one_pos (rootExponent e - 1) (fracBits_pos hf) rm false
  rw [Nat.cast_one, div_one, ← sqrtPositive_eq] at hround
  have hcompare : ∀ c : Nat, ComparesAsRoot (m * 2 ^ e) (stickyRoot (widened m e) (integerRoot m e) *
      2 ^ (rootExponent e - 1)) (c * 2 ^ rootExponent e) := fun c =>
    hvalue ▸ stickyRoot_comparesAsRoot hle hlt (rootExponent e) c
  have hbig : (2 : ℚ) ^ (f.fracBits + 2) * 2 ^ rootExponent e ≤
      stickyRoot (widened m e) (integerRoot m e) * 2 ^ (rootExponent e - 1) := by
    have hunits : 2 ^ (f.fracBits + 2) ≤ 2 ^ 60 :=
      Nat.pow_le_pow_right two_pos ((Nat.add_le_add_right (fracBits_le hf) 2).trans (by decide))
    have htwice : 2 ^ (f.fracBits + 2) * 2 ≤ stickyRoot (widened m e) (integerRoot m e) := by
      unfold stickyRoot
      omega
    rw [zpow_sub_one₀ two_ne_zero, mul_comm ((2 : ℚ) ^ rootExponent e), ← mul_assoc,
      mul_le_mul_iff_left₀ (two_zpow_pos _), ← div_eq_mul_inv, le_div_iff₀ two_pos]
    exact_mod_cast htwice
  refine isRoundedRoot_of_isRoundedPattern hround
    (stickyRoot_lt_of_value_lt hle (by omega) (four_le_infinity hf) (hvalue ▸ hx)) fun g hlow hhigh => ?_
  obtain ⟨K, j, d, hd, hsum, hlowValue, hhighValue⟩ := neighbours_are_multiples hbig hhigh
  have hmid : (magnitudeValue f g + magnitudeValue f (g + 1)) / 2 =
      ((2 * K + 1) * 2 ^ j : Nat) * 2 ^ rootExponent e := by
    rw [hlowValue, hhighValue]
    push_cast
    ring
  have hsplit : ((2 * K + 1) * 2 ^ j : Nat) * (2 : ℚ) ^ rootExponent e =
      (2 * K + 1 : Nat) * 2 ^ (rootExponent e + j) := by
    rw [zpow_add₀ two_ne_zero, zpow_natCast]
    push_cast
    ring
  rw [hmid, hlowValue, hhighValue]
  refine ⟨hcompare _, hcompare _, hcompare _, mt (hcompare _).2.mp ?_⟩
  rw [hsplit]
  exact odd_square_ne hm he (minExponent_neg hf) hd (by omega)

end Sys2Proof.Machine

namespace Sys2Proof.Proofs

open Sys2Proof.Machine

/-- Settles O54: each operation is one `roundTo` of the exact value, or of the root to more bits with a sticky bit. -/
theorem arithmeticIsCorrectlyRounded : Obligations.ArithmeticIsCorrectlyRounded := by
  unfold Obligations.ArithmeticIsCorrectlyRounded
  intro f rm a b hf ha hb
  dsimp only
  have hfrac := fracBits_pos hf
  refine ⟨fun hne => ?add, fun hne => ?sub, fun hne => ?mul, fun hy hne => ?div, fun hx => ?sqrt⟩
  case add =>
    rw [ieeeFunction_add]
    exact addValues_rounded hfrac rm _ ha hb (by rw [← patternValue_eq_withSignQ]) hne
  case sub =>
    rw [ieeeFunction_sub]
    exact addValues_rounded hfrac rm _ ha hb (by rw [← patternValue_neg, sub_eq_add_neg]) hne
  case mul => exact mulValues_rounded hfrac rm ha hb hne
  case div => exact divValues_rounded hfrac rm ha hb (div_ne_zero_iff.mp hne).1 hy
  case sqrt =>
    have hsig := significandOf_pos hx.ne'
    have hsign : signOf f a = false := by
      rw [← decide_patternValue_neg hx.ne', decide_eq_false hx.not_gt]
    have hvalue : patternValue f a =
        significandOf f (magnitudeOf f a) * 2 ^ exponentOf f (magnitudeOf f a) := by
      rw [patternValue_eq, hsign]
      rfl
    have hlt : patternValue f a < magnitudeValue f (infinityMagnitude f) := by
      rw [hvalue, ← magnitudeValue_eq]
      exact magnitudeValue_strictMono f ha
    rw [hvalue] at hlt ⊢
    refine ⟨_, ?_, isRoundedRoot_sqrtPositive hf rm hsig (significandOf_lt f _) (minExponent_le_exponentOf f _) hlt⟩
    rw [ieeeFunction_sqrt, unpack_of_finite ha, hsign, sqrtValue, if_neg hsig.ne']
    rfl

end Sys2Proof.Proofs
end
